-- ==== Sys2Proof/Word.lean ====
section
/-! DEFINITION. The machine's value types (00_scope.md R13, R14): every register is 32 bits, every buffer element is a
byte, and the one wider value is the 64-bit metadata integer.  All arithmetic on them is unsigned and wraps. -/

namespace Sys2Proof

/-- R14: `u8`, one byte of DBUF or EBUF. -/
abbrev Byte := BitVec 8

/-- R11, R14: `u32`, REG_WIDTH = 32 bits, every register of the window. -/
abbrev Word := BitVec 32

/-- R14: `u64`, the metadata integer of R221. -/
abbrev DWord := BitVec 64

end Sys2Proof
end

