-- ==== Sys2Proof/Machine/Bytes.lean ====
section
/-! DEFINITION. Byte conversion (00_scope.md R17): little-endian in both directions. -/

namespace Sys2Proof.Machine

/-- Byte k of a byte string, as a 32-bit value. -/
def byteAt (s : List Byte) (k : Nat) : Word := (s.getD k 0).setWidth 32

/-- R17: `LE32(s) = s[0] | s[1]<<8 | s[2]<<16 | s[3]<<24`. -/
def le32 (s : List Byte) : Word :=
  byteAt s 0 ||| (byteAt s 1 <<< 8) ||| (byteAt s 2 <<< 16) ||| (byteAt s 3 <<< 24)

/-- R17: the 4-byte string whose LE32 is v. -/
def bytesLe32 (v : Word) : List Byte :=
  [v.extractLsb' 0 8, v.extractLsb' 8 8, v.extractLsb' 16 8, v.extractLsb' 24 8]

/-- R17: `LE64(s) = sum over k in 0..7 of s[k] << 8k`. -/
def le64 (s : List Byte) : DWord :=
  (le32 (s.take 4)).setWidth 64 ||| ((le32 (s.drop 4)).setWidth 64 <<< 32)

/-- R17: the 8-byte string whose LE64 is v. -/
def bytesLe64 (v : DWord) : List Byte :=
  bytesLe32 (v.extractLsb' 0 32) ++ bytesLe32 (v.extractLsb' 32 32)

end Sys2Proof.Machine
end

