-- ==== Sys2Proof/Config.lean ====
section
/-! DEFINITION. What one FS2-CORE fixes: the constants of 00_scope.md R10 and R11, the open parameters of R12 (a record
that `State` carries, so that a statement about every state is a statement about every value of them), and the free
values, which have no body. -/

namespace Sys2Proof

/-! ### R10: fixed by the source -/

/-- R10: MT_DEFAULT_SEED, the implicit seed on first use. -/
def Config.mtDefaultSeed : Word := 4357
/-- R10: MT_LCG_A, the seeding multiplier. -/
def Config.mtLcgA : Word := 69069
/-- R10: MT_LCG_C, the seeding increment. -/
def Config.mtLcgC : Word := 1
/-- R10: MT_MATRIX_A, the twist constant. -/
def Config.mtMatrixA : Word := 0x9908B0DF
/-- R10: MT_TEMPER_B, the mask of the shift-7 step. -/
def Config.mtTemperB : Word := 0x9D2C5680
/-- R10: MT_TEMPER_C, the mask of the shift-15 step. -/
def Config.mtTemperC : Word := 0xEFC60000
/-- R10: BF_KEY_MAX, the longest cipher key in bytes. -/
abbrev Config.bfKeyMax : Nat := 56
/-- R10: CRC_POLY, the checksum polynomial. -/
def Config.crcPoly : Word := 0x04C11DB7
/-- R10: CRC_INIT, the checksum's start value. -/
def Config.crcInit : Word := 0xFFFFFFFF
/-- R10: HEADER_BYTES, 4 bytes of magic and 4 of count. -/
abbrev Config.headerBytes : Nat := 8
/-- R10: ENTRY_BYTES, a 64-byte name and 8 bytes of metadata. -/
abbrev Config.entryBytes : Nat := 72

/-! ### R11: chosen by the spec -/

/-- R11: WINDOW_BYTES, the size of the register window. -/
abbrev Config.windowBytes : Nat := 0x2000
/-- R11: DBUF_BYTES, the size of the data buffer. -/
abbrev Config.dbufBytes : Nat := 256
/-- R11: EBUF_BYTES, the size of the entry buffer. -/
abbrev Config.ebufBytes : Nat := 72
/-- R11, R24: ID_VALUE, what the ID register always reads. -/
def Config.idValue : Word := 0x43325346
/-- R51: the window offset of DBUF[0]. -/
abbrev Config.dbufBase : Nat := 0x200
/-- R51: the window offset of EBUF[0]. -/
abbrev Config.ebufBase : Nat := 0x300
/-- R51: the window offset of MT_STATE[0]. -/
abbrev Config.mtStateBase : Nat := 0x1000

/-- What a byte of DBUF or EBUF that nothing has written reads as.  R40 says "unspecified, stable" and gives no value:
DESIGN CHOICE 0, unsafe (notes/assumptions/1.md). -/
def Config.unwrittenByte : Byte := 0

/-! ### R12: open parameters -/

/-- R12: the parameters the source and the spec leave open, which "a model takes as a named argument".  `State` carries
one such record and no step changes it.  `Params.wf` (WellFormed.lean) is what R12 says is known of them. -/
structure Params where
  /-- R12, R216: MAGIC, the 4 signature bytes of an archive header. -/
  magic : Vector Byte 4
  /-- R12, R212: KEY_MARKER, the 11-byte name of the reserved key entry. -/
  keyMarker : Vector Byte 11
  /-- R12, R173: COMMON_SALT, a byte string with no zero byte, 0 to 255 bytes long. -/
  commonSalt : List Byte
  /-- R12, R173: DEBUG_SALT, likewise. -/
  debugSalt : List Byte
deriving DecidableEq, Repr

/-- FREE VALUE (notes/assumptions/4.md): the length of COMMON_SALT, 0 to 255 (R12). -/
opaque Config.commonSaltLength : Fin 256
/-- FREE VALUE (notes/assumptions/4.md): byte k of COMMON_SALT, less one, so that no byte is zero (R12). -/
opaque Config.commonSaltByte : Nat → Fin 255
/-- FREE VALUE (notes/assumptions/4.md): the length of DEBUG_SALT, 0 to 255 (R12). -/
opaque Config.debugSaltLength : Fin 256
/-- FREE VALUE (notes/assumptions/4.md): byte k of DEBUG_SALT, less one, so that no byte is zero (R12). -/
opaque Config.debugSaltByte : Nat → Fin 255

/-- The byte string of length n whose byte k is `1 + f k`: every string of n non-zero bytes is one of these. -/
def Config.saltOf (n : Nat) (f : Nat → Fin 255) : List Byte :=
  (List.range n).map fun k => BitVec.ofNat 8 ((f k).val + 1)

/-- The parameters of the machine at reset: MAGIC and KEY_MARKER are the defaults R12 suggests from general knowledge,
PRESUMED, unsafe (notes/assumptions/3.md); the salts are free values (notes/assumptions/4.md). -/
def Config.defaultParams : Params where
  magic := #v[0x4B, 0x49, 0x46, 0x00]
  keyMarker := #v[0x5F, 0x5F, 0x6B, 0x65, 0x79, 0x5F, 0x5F, 0x2E, 0x64, 0x61, 0x74]
  commonSalt := Config.saltOf Config.commonSaltLength.val Config.commonSaltByte
  debugSalt := Config.saltOf Config.debugSaltLength.val Config.debugSaltByte

/-- FREE VALUE (notes/assumptions/5.md): what the n-th host read made while BUSY = 1 returns, for a word other than ID
and STATUS (R297, 93_implementation_defined.md U2: "any value, no side effect"). -/
opaque Config.busyRead : Nat → Word

end Sys2Proof
end

