-- ==== Sys2Proof/Machine/HostOp.lean ====
section
/-! DEFINITION. What the outside world does to FS2-CORE, one entry per event: the host's accesses of the register
window (00_scope.md R16, 30_encoding.md R80) and the platform's hardware reset (70_reset_and_hazards.md R290).  A list
of them stands in State: it is the machine's input, in the order the host makes the accesses (R59). -/

namespace Sys2Proof.Machine

/-- One event from outside the core. -/
inductive HostOp where
  /-- R16: MemRead(addr, n), the form `R <reg>` of R80.  Only n = 4 and aligned addresses inside the window are
  defined (R53); the other values are here so that the model can say that it stops on them. -/
  | read (addr n : Nat)
  /-- R16: MemWrite(addr, n, v), the form `W <reg>, <v>` of R80. -/
  | write (addr n : Nat) (v : Word)
  /-- R80: `P`, reads of STATUS repeated until bit 0 (BUSY) reads 0. -/
  | poll
  /-- R290: a hardware reset. -/
  | hardReset
deriving DecidableEq, Repr

end Sys2Proof.Machine
end

