-- ==== Sys2Proof/Syntax.lean ====
section
/-! DEFINITION. The commands of FS2-CORE (30_encoding.md R72), one constructor per row of spec/opcode_table.json.  A
command word holds no operand (R70): operands are the values of ARG0..ARG2 and of the buffers when the command
executes (R75), so no constructor has a field. -/

namespace Sys2Proof

/-- R72: the 21 commands, in the table's order. -/
inductive Instr where
  /-- 0x00 NOP (R250). -/
  | nop
  /-- 0x01 MT_SEED (R108). -/
  | mtSeed
  /-- 0x02 MT_TWIST (R109). -/
  | mtTwist
  /-- 0x03 MT_NEXT (R110). -/
  | mtNext
  /-- 0x04 MT_TEMPER (R111). -/
  | mtTemper
  /-- 0x05 MT_UNTEMPER (R112). -/
  | mtUntemper
  /-- 0x06 MT_FIRST (R113). -/
  | mtFirst
  /-- 0x10 BF_KEY (R137). -/
  | bfKey
  /-- 0x11 BF_ENCB (R138). -/
  | bfEncb
  /-- 0x12 BF_DECB (R139). -/
  | bfDecb
  /-- 0x13 BF_ENC (R140). -/
  | bfEnc
  /-- 0x14 BF_DEC (R141). -/
  | bfDec
  /-- 0x20 SEED_DERIVE (R174). -/
  | seedDerive
  /-- 0x30 SUBST (R195). -/
  | subst
  /-- 0x31 SUBST_KEY (R196). -/
  | substKey
  /-- 0x40 ARC_TOC_SET (R214). -/
  | arcTocSet
  /-- 0x41 ARC_TOC_CLR (R215). -/
  | arcTocClr
  /-- 0x42 ARC_HEADER (R216). -/
  | arcHeader
  /-- 0x43 ARC_ENTRY (R217). -/
  | arcEntry
  /-- 0x44 ARC_ABORT (R224). -/
  | arcAbort
  /-- 0xFF CORE_RESET (R251). -/
  | coreReset
deriving DecidableEq, Repr

end Sys2Proof
end

