-- ==== Sys2Proof/WellFormed.lean ====
section
/-! DEFINITION. Well-formedness.  A command has no operand fields, so every `Instr` is well formed as syntax; what can
be ill formed is a command word (R70, R71, R73), a host access (R53) and a choice of the open parameters (R12). -/

namespace Sys2Proof

/-- R73, the ranges of unassigned OPC values as the rule lists them: 0x07..0x0F, 0x15..0x1F, 0x21..0x2F, 0x32..0x3F and
0x45..0xFE. -/
def opcodeUnassigned (op : Nat) : Bool :=
  (0x07 ≤ op && op ≤ 0x0F) || (0x15 ≤ op && op ≤ 0x1F) || (0x21 ≤ op && op ≤ 0x2F) ||
    (0x32 ≤ op && op ≤ 0x3F) || (0x45 ≤ op && op ≤ 0xFE)

/-- R70, R71, R73: a command word is legal when RSV (bits 31:8) is 0 and OPC (bits 7:0) is assigned. -/
def commandWordWf (w : Word) : Bool :=
  w.extractLsb' 8 24 == 0 && !opcodeUnassigned (w.extractLsb' 0 8).toNat

/-- R53: a defined host access is 4 bytes wide, aligned, and inside the window. -/
def accessWf (addr n : Nat) : Bool :=
  n == 4 && addr % 4 == 0 && decide (addr < Config.windowBytes)

/-- R53 for every event: polls and resets are always defined. -/
def Machine.HostOp.wf : Machine.HostOp → Bool
  | .read addr n => accessWf addr n
  | .write addr n _ => accessWf addr n
  | .poll => true
  | .hardReset => true

/-- R12: a salt is a byte string with no zero byte, of length 0 to 255. -/
def saltWf (salt : List Byte) : Bool :=
  salt.all (· != 0) && decide (salt.length ≤ 255)

/-- R12: what is known of the open parameters.  MAGIC is any 4 bytes; KEY_MARKER is ASCII with no zero byte. -/
def Params.wf (p : Params) : Bool :=
  p.keyMarker.toList.all (fun b => b != 0 && decide (b.toNat < 128)) &&
    saltWf p.commonSalt && saltWf p.debugSalt

end Sys2Proof
end

