-- ==== Sys2Proof/Decode.lean ====
section
/-! DEFINITION. The command decoder (30_encoding.md R70 to R73), total on any bytes and rejecting by name, and after it
the encoder.  There is one command length and one format (R79): a 32-bit word, bits 7:0 OPC, bits 31:8 reserved. -/

namespace Sys2Proof

/-- Why bytes are not a command. -/
inductive DecodeError where
  /-- Fewer than the 4 bytes of a command word (R79: there is one command length). -/
  | tooShort
  /-- R71: RSV (bits 31:8) is not 0. -/
  | reservedBits
  /-- R73: OPC is not in the table of R72. -/
  | unassignedOpcode
deriving DecidableEq, Repr

/-- R72: the opcode map, from OPC to command. -/
def decodeOpcode (op : Nat) : Option Instr :=
  match op with
  | 0x00 => some .nop
  | 0x01 => some .mtSeed
  | 0x02 => some .mtTwist
  | 0x03 => some .mtNext
  | 0x04 => some .mtTemper
  | 0x05 => some .mtUntemper
  | 0x06 => some .mtFirst
  | 0x10 => some .bfKey
  | 0x11 => some .bfEncb
  | 0x12 => some .bfDecb
  | 0x13 => some .bfEnc
  | 0x14 => some .bfDec
  | 0x20 => some .seedDerive
  | 0x30 => some .subst
  | 0x31 => some .substKey
  | 0x40 => some .arcTocSet
  | 0x41 => some .arcTocClr
  | 0x42 => some .arcHeader
  | 0x43 => some .arcEntry
  | 0x44 => some .arcAbort
  | 0xFF => some .coreReset
  | _ => none

/-- R70: the OPC field of a command word. -/
def opcField (w : Word) : Byte := w.extractLsb' 0 8

/-- R70: the RSV field of a command word. -/
def rsvField (w : Word) : BitVec 24 := w.extractLsb' 8 24

/-- R70, R71, R73: the command of a command word. -/
def decodeWord (w : Word) : Except DecodeError Instr :=
  if rsvField w = 0 then
    match decodeOpcode (opcField w).toNat with
    | some i => .ok i
    | none => .error .unassignedOpcode
  else .error .reservedBits

/-- A command from the front of a byte string, its word in little-endian order (R54 for every word of the window), and
the bytes after it. -/
def decode (bs : List Byte) : Except DecodeError (Instr × List Byte) :=
  match bs with
  | b0 :: b1 :: b2 :: b3 :: rest =>
    match decodeWord (Machine.le32 [b0, b1, b2, b3]) with
    | .ok i => .ok (i, rest)
    | .error e => .error e
  | _ => .error .tooShort

/-- R72: the opcode of a command. -/
def opcode (i : Instr) : Byte :=
  match i with
  | .nop => 0x00
  | .mtSeed => 0x01
  | .mtTwist => 0x02
  | .mtNext => 0x03
  | .mtTemper => 0x04
  | .mtUntemper => 0x05
  | .mtFirst => 0x06
  | .bfKey => 0x10
  | .bfEncb => 0x11
  | .bfDecb => 0x12
  | .bfEnc => 0x13
  | .bfDec => 0x14
  | .seedDerive => 0x20
  | .subst => 0x30
  | .substKey => 0x31
  | .arcTocSet => 0x40
  | .arcTocClr => 0x41
  | .arcHeader => 0x42
  | .arcEntry => 0x43
  | .arcAbort => 0x44
  | .coreReset => 0xFF

/-- R70, R80: the command word of a command, `zext_32(OPC)`. -/
def encodeWord (i : Instr) : Word := (opcode i).setWidth 32

/-- The 4 bytes of a command's word. -/
def encode (i : Instr) : List Byte := Machine.bytesLe32 (encodeWord i)

/-- The command the decoder reads from a table word: `w` holds `nbits` bits, numbered as spec/opcode_table.json numbers
them, and every bit above them is 0. -/
def decodeTableWord (nbits w : Nat) : Option Instr :=
  match decode (Machine.bytesLe32 (BitVec.ofNat 32 (w % 2 ^ nbits))) with
  | .ok (i, _) => some i
  | .error _ => none

end Sys2Proof
end

