-- ==== Sys2Proof/Machine/State.lean ====
section
/-! DEFINITION. The state of FS2-CORE (10_state.md R20: "the following, and nothing else"), its value after a hardware
reset (R40), the error codes (R260), and the reasons a step can stop.  The last six fields are the model's own, not the
spec's: the open parameters, the host's pending events, what the host has read, and the bookkeeping of BUSY_LATENCY and
of the free values.  ID is a constant (R24) and CMD holds no state of its own (R26), so neither is a field. -/

namespace Sys2Proof.Machine

/-- R260: the error codes 0 to 7; codes 8 to 255 are never written, so the type has no others. -/
inductive ErrCode where
  /-- 0: success. -/
  | ok
  /-- 1: an ARG value outside its range. -/
  | invalidArgument
  /-- 2: the header's magic does not match. -/
  | badSignature
  /-- 3: an encrypted data entry with no table-of-contents seed. -/
  | missingTocSeed
  /-- 4: a key type outside the four supported ones. -/
  | unsupportedKeyType
  /-- 5: a record or a header cut short. -/
  | truncatedEntry
  /-- 6: a command word with reserved bits set or an unassigned opcode. -/
  | illegalCommand
  /-- 7: a command issued in a state where it has no meaning. -/
  | stateError
deriving DecidableEq, Repr

/-- R32: the archive sequencer's states. -/
inductive ArcState where
  /-- Encoding 0: no archive begun. -/
  | idle
  /-- Encoding 1: the source's `ReadEntry(i)`. -/
  | entries
  /-- Encoding 2: the last record has been processed. -/
  | done
  /-- Encoding 3: the archive ended in an error. -/
  | fatal
deriving DecidableEq, Repr

/-- The byte storage of the window, DBUF and EBUF, keyed by window offset (R51).  Canonical form: `Memory.wf`. -/
abbrev Memory := List Host.Cell

/-- R29: a key schedule, 18 subkeys and four 256-entry tables. -/
structure Schedule where
  /-- BF_P[0..17]. -/
  p : Vector Word 18
  /-- BF_S[0..3][0..255]. -/
  s : Vector (Vector Word 256) 4
deriving DecidableEq, Repr

/-- R20: the architectural state, and after it the model's own fields. -/
@[ext]
structure State where
  /-- R22: operand register ARG0. -/
  arg0 : Word
  /-- R22: operand register ARG1. -/
  arg1 : Word
  /-- R22: operand register ARG2. -/
  arg2 : Word
  /-- R23: result register RES0. -/
  res0 : Word
  /-- R23: result register RES1. -/
  res1 : Word
  /-- R23: result register RES2. -/
  res2 : Word
  /-- R25: STATUS.OVR, sticky. -/
  ovr : Bool
  /-- R25: STATUS.ERR of the last completed command. -/
  err : ErrCode
  /-- R25: STATUS.LASTOP, the opcode field of the last completed command. -/
  lastop : Byte
  /-- R27: MT_STATE[0..623]. -/
  mtState : Vector Word 624
  /-- R28: MT_CURSOR, 0 to 625. -/
  mtCursor : Fin 626
  /-- R29: BF_P and BF_S. -/
  bf : Schedule
  /-- R30: BF_VALID. -/
  bfValid : Bool
  /-- R30: BF_OWNER_ARC. -/
  bfOwnerArc : Bool
  /-- R30: BF_KEYLEN, the six bits 13:8 of BF_INFO. -/
  bfKeylen : BitVec 6
  /-- R31: TOC_SEED. -/
  tocSeed : Word
  /-- R31: TOC_VALID. -/
  tocValid : Bool
  /-- R32: ARC_STATE. -/
  arcState : ArcState
  /-- R33: ARC_COUNT. -/
  arcCount : Word
  /-- R33: ARC_INDEX. -/
  arcIndex : Word
  /-- R33: ARC_ROWS. -/
  arcRows : Word
  /-- R34: ARC_ENC. -/
  arcEnc : Bool
  /-- R34: ARC_KEYSEED. -/
  arcKeyseed : Word
  /-- R34: ARC_ERR. -/
  arcErr : ErrCode
  /-- R36, R37: DBUF[0..255] at offsets 0x200..0x2FF and EBUF[0..71] at 0x300..0x347.  DESIGN CHOICE,
  safe (notes/assumptions/13.md). -/
  mem : Memory
  /-- R38, R74: PENDING, the word of an accepted command that has not completed, or none.  DEDUCED, safe
  (notes/assumptions/14.md). -/
  pending : Option Word
  /-- MODEL'S OWN. R12: the open parameters; no step changes them.  DESIGN CHOICE, safe (notes/assumptions/12.md). -/
  params : Params
  /-- MODEL'S OWN. What the outside world does next, in order (R59): the machine's input.  DESIGN CHOICE, safe
  (notes/assumptions/6.md). -/
  hostQueue : List HostOp
  /-- MODEL'S OWN. The values the host's `R` accesses have returned, the newest first.  DESIGN CHOICE, safe
  (notes/assumptions/11.md). -/
  hostReads : List Word
  /-- MODEL'S OWN. R12: BUSY_LATENCY, one number for each command to come; an exhausted list means 0.  Any list is a
  possible timing (R296).  DESIGN CHOICE, safe (notes/assumptions/8.md). -/
  latencies : List Nat
  /-- MODEL'S OWN. How many more steps the pending command keeps BUSY = 1 before it executes.  DESIGN CHOICE, safe
  (notes/assumptions/8.md). -/
  wait : Nat
  /-- MODEL'S OWN. How many free values have been used: the argument of `Config.busyRead`.  DESIGN CHOICE, safe
  (notes/assumptions/5.md). -/
  freeIndex : Nat
deriving DecidableEq, Repr

/-- Why the machine stops with a fault: for no reason.  The spec names no fault of the core, since a command that fails
completes with an error code (R262), and 93_implementation_defined.md gives no item the treatment `fault`. -/
inductive Fault where
deriving DecidableEq, Repr

/-- Why the model gives no meaning. -/
inductive Refusal where
  /-- Raised by exec for an instruction that has no meaning yet.  Safe: the model stops.  No arm of exec raises it. -/
  | notModelled (mnemonic : String)
  /-- Raised by a host access that is not 4 bytes wide (R53: "not specified ... A model refuses such an access").  Safe:
  the model stops (notes/assumptions/7.md). -/
  | accessWidth (bytes : Nat)
  /-- Raised by a host access at an address that is not a multiple of 4 (R53, likewise).  Safe: the model stops
  (notes/assumptions/7.md). -/
  | misalignedAccess (addr : Nat)
  /-- Raised by a host access at an address of 0x2000 or more, outside the window (R53, likewise).  Safe: the model stops
  (notes/assumptions/7.md). -/
  | outsideWindow (addr : Nat)
deriving DecidableEq, Repr

/-- R40, R290: the machine right after a hardware reset.  MT_STATE, BF_P, BF_S, DBUF and EBUF are "unspecified, stable"
there; the zeros they hold here are the model's own, DESIGN CHOICE, unsafe (notes/assumptions/1.md and 2.md). -/
def State.reset : State where
  arg0 := 0
  arg1 := 0
  arg2 := 0
  res0 := 0
  res1 := 0
  res2 := 0
  ovr := false
  err := .ok
  lastop := 0
  mtState := Vector.replicate 624 0
  mtCursor := 625
  bf := { p := Vector.replicate 18 0, s := Vector.replicate 4 (Vector.replicate 256 0) }
  bfValid := false
  bfOwnerArc := false
  bfKeylen := 0
  tocSeed := 0
  tocValid := false
  arcState := .idle
  arcCount := 0
  arcIndex := 0
  arcRows := 0
  arcEnc := false
  arcKeyseed := 0
  arcErr := .ok
  mem := []
  pending := none
  params := Config.defaultParams
  hostQueue := []
  hostReads := []
  latencies := []
  wait := 0
  freeIndex := 0

end Sys2Proof.Machine
end

