-- ==== Sys2Proof/Machine/Ops.lean ====
section
/-! DEFINITION. The named operations over the byte storage and the completion of a command.  FS2-CORE has no traps
(60_exceptions.md R262, R269): what stands for taking an exception is completing with an error code (R18, R74, R260),
and that is the one shared operation `State.complete`. -/

namespace Sys2Proof.Machine

/-! ### Byte storage -/

/-- The byte at a window offset; one that is not listed reads as `Config.unwrittenByte`. -/
def Memory.read (m : Memory) (a : Nat) : Byte :=
  match m with
  | [] => Config.unwrittenByte
  | (k, b) :: rest => if k = a then b else Memory.read rest a

/-- Put a cell before the first cell of a higher offset. -/
def Memory.insert (m : Memory) (a : Nat) (b : Byte) : Memory :=
  match m with
  | [] => [(a, b)]
  | (k, c) :: rest => if a < k then (a, b) :: (k, c) :: rest else (k, c) :: Memory.insert rest a b

/-- Drop the cell of an offset. -/
def Memory.erase (m : Memory) (a : Nat) : Memory :=
  match m with
  | [] => []
  | (k, c) :: rest => if k = a then Memory.erase rest a else (k, c) :: Memory.erase rest a

/-- Store one byte.  Storing what an unlisted offset reads as removes the cell. -/
def Memory.write (m : Memory) (a : Nat) (b : Byte) : Memory :=
  if b = Config.unwrittenByte then Memory.erase m a else Memory.insert (Memory.erase m a) a b

/-- R15: `buf[a:a+n]`, the n bytes from an offset on. -/
def Memory.readBytes (m : Memory) (a n : Nat) : List Byte :=
  (List.range n).map fun k => Memory.read m (a + k)

/-- R15: `buf[a:b] <- s`, the bytes of s stored from an offset on. -/
def Memory.writeBytes (m : Memory) (a : Nat) (s : List Byte) : Memory :=
  match s with
  | [] => m
  | b :: rest => Memory.writeBytes (Memory.write m a b) (a + 1) rest

/-- Offsets strictly rising. -/
def Memory.rising (m : Memory) : Bool :=
  match m with
  | [] => true
  | (k, _) :: rest => rest.all (fun c => decide (k < c.1)) && Memory.rising rest

/-- The canonical form: offsets strictly rising, and no cell holds what an unlisted offset reads as. -/
def Memory.wf (m : Memory) : Bool :=
  Memory.rising m && m.all (fun c => c.2 != Config.unwrittenByte)

/-- R50, R51: the only byte storage is DBUF (0x200..0x2FF) and EBUF (0x300..0x347). -/
def Memory.inBuffers (m : Memory) : Bool :=
  m.all fun c => decide (Config.dbufBase ≤ c.1) && decide (c.1 < Config.ebufBase + Config.ebufBytes)

/-! ### Completion of a command -/

/-- R74: a command of opcode field `op` completes with error code `e`: ERR and LASTOP are written together and PENDING
is cleared, which makes BUSY 0 (R38). -/
def State.complete (s : State) (op : Byte) (e : ErrCode) : State :=
  { s with err := e, lastop := op, pending := none }

/-- The completion of command i with no error. -/
def succeed (i : Instr) (s : State) : Host.Outcome State Fault Refusal :=
  .next (s.complete (opcode i) .ok)

/-- R18: `raise E`, the end of command i with error code E in the state its pseudocode has reached. -/
def raise (i : Instr) (e : ErrCode) (s : State) : Host.Outcome State Fault Refusal :=
  .next (s.complete (opcode i) e)

/-- R264: the archive sequencer in Fatal, with the reason in ARC_ERR. -/
def State.archiveFatal (s : State) (e : ErrCode) : State := { s with arcState := .fatal, arcErr := e }

/-- R264: an archive error puts the sequencer in Fatal, records the code in ARC_ERR and completes with it. -/
def archiveError (i : Instr) (e : ErrCode) (s : State) : Host.Outcome State Fault Refusal :=
  raise i e (s.archiveFatal e)

/-- R71, R73: a command word that is no command completes with IllegalCommand and no other effect. -/
def completeIllegal (w : Word) (s : State) : Host.Outcome State Fault Refusal :=
  .next (s.complete (opcField w) .illegalCommand)

end Sys2Proof.Machine
end

