-- ==== Sys2Proof/Machine/Operands.lean ====
section
/-! DEFINITION. The operand forms (30_encoding.md R75, R76): whole ARG registers, ranges of ARG1, prefixes of DBUF and
EBUF, and the key type tag of SEED_DERIVE (42_seed_derivation.md R172).  Every operand is the whole 32-bit value of its
register, unsigned. -/

namespace Sys2Proof.Machine

/-- R137: a key length of 1 to 56. -/
def keyLengthOk (n : Nat) : Bool := decide (1 ≤ n) && decide (n ≤ Config.bfKeyMax)

/-- R140, R141: a data length of 0 to 256 that is a multiple of 8. -/
def dataLengthOk (n : Nat) : Bool := decide (n ≤ Config.dbufBytes) && n % 8 == 0

/-- R174, R195: a length within DBUF. -/
def bufferLengthOk (n : Nat) : Bool := decide (n ≤ Config.dbufBytes)

/-- R216, R217: a number of bytes available, 0 to 72. -/
def availableOk (n : Nat) : Bool := decide (n ≤ Config.entryBytes)

/-- R195: a substitution key of 0 to 255. -/
def substKeyOk (k : Nat) : Bool := decide (k ≤ 255)

/-- R15, R36: `DBUF[a:a+n]`. -/
def State.dbuf (s : State) (a n : Nat) : List Byte := s.mem.readBytes (Config.dbufBase + a) n

/-- R15, R37: `EBUF[a:a+n]`. -/
def State.ebuf (s : State) (a n : Nat) : List Byte := s.mem.readBytes (Config.ebufBase + a) n

/-- R15, R36: `DBUF[a:..] <- bytes`. -/
def State.setDbuf (s : State) (a : Nat) (bytes : List Byte) : State :=
  { s with mem := s.mem.writeBytes (Config.dbufBase + a) bytes }

/-- R15, R37: `EBUF[a:..] <- bytes`. -/
def State.setEbuf (s : State) (a : Nat) (bytes : List Byte) : State :=
  { s with mem := s.mem.writeBytes (Config.ebufBase + a) bytes }

/-- R172: the closed enumeration of key types, numbered in the source's own order. -/
inductive KeyType where
  /-- Tag 0. -/
  | direct
  /-- Tag 1. -/
  | volumeBound
  /-- Tag 2. -/
  | common
  /-- Tag 3. -/
  | debug
  /-- Tag 4, unsupported. -/
  | activate
  /-- Tag 5, unsupported. -/
  | legacyGlobal
  /-- Tag 6, unsupported. -/
  | archiveInternalDummy
deriving DecidableEq, Repr

/-- R172: the key type of a tag, none for 7 and above. -/
def keyTypeOf (tag : Word) : Option KeyType :=
  match tag.toNat with
  | 0 => some .direct
  | 1 => some .volumeBound
  | 2 => some .common
  | 3 => some .debug
  | 4 => some .activate
  | 5 => some .legacyGlobal
  | 6 => some .archiveInternalDummy
  | _ => none

end Sys2Proof.Machine
end

