-- ==== Sys2Proof/Machine/BlockCipher.lean ====
section
/-! DEFINITION. Block Cipher (41_block_cipher.md): the functions R130 to R135 and the meanings of BF_KEY, BF_ENCB,
BF_DECB, BF_ENC and BF_DEC (R137 to R141). -/

namespace Sys2Proof.Machine

/-! ### Functions over a schedule -/

/-- R131: `F(S, x) = ((S[0][a] + S[1][b]) ^ S[2][c]) + S[3][d]`, with a the most significant byte of x. -/
def roundF (s : Vector (Vector Word 256) 4) (x : Word) : Word :=
  ((s[0][(x.extractLsb' 24 8).toNat]'(x.extractLsb' 24 8).isLt +
      s[1][(x.extractLsb' 16 8).toNat]'(x.extractLsb' 16 8).isLt) ^^^
    s[2][(x.extractLsb' 8 8).toNat]'(x.extractLsb' 8 8).isLt) +
    s[3][(x.extractLsb' 0 8).toNat]'(x.extractLsb' 0 8).isLt

/-- R132, R133: one round with subkey `k`: the left half takes the subkey, the right half takes F of it, and the halves
change places. -/
def feistelRound (s : Vector (Vector Word 256) 4) (k : Word) (lr : Word × Word) : Word × Word :=
  (lr.2 ^^^ roundF s (lr.1 ^^^ k), lr.1 ^^^ k)

/-- R132: `EncryptHalves(P, S, L, R)`: rounds 0 to 15, the last swap undone, then P[16] and P[17]. -/
def encryptHalves (k : Schedule) (lr : Word × Word) : Word × Word :=
  let out := Nat.fold 16 (fun i h x => feistelRound k.s (k.p[i]'(by omega)) x) lr
  (out.2 ^^^ k.p[17], out.1 ^^^ k.p[16])

/-- R133: `DecryptHalves(P, S, L, R)`: subkeys 17 down to 2, the last swap undone, then P[1] and P[0]. -/
def decryptHalves (k : Schedule) (lr : Word × Word) : Word × Word :=
  let out := Nat.fold 16 (fun i h x => feistelRound k.s (k.p[17 - i]'(by omega)) x) lr
  (out.2 ^^^ k.p[0], out.1 ^^^ k.p[1])

/-- R134: the halves of an 8-byte block, each read little-endian, the left half first. -/
def halvesOf (b : List Byte) : Word × Word := (le32 (b.take 4), le32 (b.drop 4))

/-- R134: the 8 bytes of two halves. -/
def bytesOfHalves (lr : Word × Word) : List Byte := bytesLe32 lr.1 ++ bytesLe32 lr.2

/-- R134: `EncryptBlock(P, S, b)`. -/
def encryptBlock (k : Schedule) (b : List Byte) : List Byte := bytesOfHalves (encryptHalves k (halvesOf b))

/-- R135: `DecryptBlock(P, S, b)`. -/
def decryptBlock (k : Schedule) (b : List Byte) : List Byte := bytesOfHalves (decryptHalves k (halvesOf b))

/-! ### The key schedule -/

/-- R130: byte m of the cyclic key stream. -/
def keyStreamByte (key : List Byte) (m : Nat) : Byte := key.getD (m % key.length) 0

/-- R130: the i-th 32-bit word of the key stream, its first byte most significant. -/
def keyStreamWord (key : List Byte) (i : Nat) : Word :=
  Nat.fold 4 (fun t _ (d : Word) => (d <<< 8) ||| (keyStreamByte key (4 * i + t)).setWidth 32) 0

/-- R130: the schedule before the first encryption: the initial subkeys under the key stream, and the initial tables. -/
def keyedSchedule (key : List Byte) : Schedule where
  p := Vector.ofFn fun i => pInit[i] ^^^ keyStreamWord key i.val
  s := sInit

/-- R130: encrypt the running block and put it into P[2j] and P[2j+1]. -/
def fillP (j : Nat) (h : j < 9) (x : Schedule × (Word × Word)) : Schedule × (Word × Word) :=
  let lr := encryptHalves x.1 x.2
  ({ x.1 with p := (x.1.p.set (2 * j) lr.1).set (2 * j + 1) lr.2 }, lr)

/-- R130: encrypt the running block and put it into S[t][2e] and S[t][2e+1]. -/
def fillS (t : Nat) (ht : t < 4) (e : Nat) (he : e < 128) (x : Schedule × (Word × Word)) : Schedule × (Word × Word) :=
  let lr := encryptHalves x.1 x.2
  ({ x.1 with s := x.1.s.set t (((x.1.s[t]).set (2 * e) lr.1).set (2 * e + 1) lr.2) }, lr)

/-- R130: `KeySchedule(key)`: 9 encryptions fill P and then 4 times 128 fill S, starting from the all-zero block. -/
@[irreducible] def keySchedule (key : List Byte) : Schedule :=
  let filledP := Nat.fold 9 fillP (keyedSchedule key, (0, 0))
  (Nat.fold 4 (fun t ht x => Nat.fold 128 (fun e he y => fillS t ht e he y) x) filledP).1

/-! ### Data in DBUF -/

/-- R140, R141: the blocks of `DBUF[0:8n]` transformed one by one, in increasing order, with no chaining. -/
def State.mapBlocks (s : State) (f : List Byte → List Byte) (n : Nat) : State :=
  Nat.fold n (fun k _ (t : State) => t.setDbuf (8 * k) (f (t.dbuf (8 * k) 8))) s

/-- R29, R130, R137, R218: a whole new schedule, with its owner and key length. -/
def State.withSchedule (s : State) (key : List Byte) (ownerArc : Bool) (keylen : BitVec 6) : State :=
  { s with bf := keySchedule key, bfValid := true, bfOwnerArc := ownerArc, bfKeylen := keylen }

/-! ### Meanings -/

/-- R137: BF_KEY. -/
def execBfKey (s : State) : Host.Outcome State Fault Refusal :=
  if keyLengthOk s.arg1.toNat = false then raise .bfKey .invalidArgument s
  else if s.arcState = .entries ∧ s.arcEnc = true then raise .bfKey .stateError s
  else succeed .bfKey (s.withSchedule (s.dbuf 0 s.arg1.toNat) false (s.arg1.setWidth 6))

/-- R138: BF_ENCB. -/
def execBfEncb (s : State) : Host.Outcome State Fault Refusal :=
  if s.bfValid = false then raise .bfEncb .stateError s
  else
    let lr := encryptHalves s.bf (s.arg0, s.arg1)
    succeed .bfEncb { s with res0 := lr.1, res1 := lr.2 }

/-- R139: BF_DECB. -/
def execBfDecb (s : State) : Host.Outcome State Fault Refusal :=
  if s.bfValid = false then raise .bfDecb .stateError s
  else
    let lr := decryptHalves s.bf (s.arg0, s.arg1)
    succeed .bfDecb { s with res0 := lr.1, res1 := lr.2 }

/-- R140: BF_ENC. -/
def execBfEnc (s : State) : Host.Outcome State Fault Refusal :=
  if dataLengthOk s.arg1.toNat = false then raise .bfEnc .invalidArgument s
  else if s.bfValid = false then raise .bfEnc .stateError s
  else succeed .bfEnc (s.mapBlocks (encryptBlock s.bf) (s.arg1.toNat / 8))

/-- R141: BF_DEC. -/
def execBfDec (s : State) : Host.Outcome State Fault Refusal :=
  if dataLengthOk s.arg1.toNat = false then raise .bfDec .invalidArgument s
  else if s.bfValid = false then raise .bfDec .stateError s
  else succeed .bfDec (s.mapBlocks (decryptBlock s.bf) (s.arg1.toNat / 8))

end Sys2Proof.Machine
end

