-- ==== Sys2Proof/Machine/Prng.lean ====
section
/-! DEFINITION. PRNG Engine (40_prng.md): the MT19937 functions R100 to R105 and the meanings of MT_SEED, MT_TWIST,
MT_NEXT, MT_TEMPER, MT_UNTEMPER and MT_FIRST (R108 to R113). -/

namespace Sys2Proof.Machine

/-! ### Functions -/

/-- R100: `LCG(s) = 69069 * s + 1`, mod 2^32. -/
def lcg (s : Word) : Word := Config.mtLcgA * s + Config.mtLcgC

/-- R101: `s_k`, with `s_0 = seed` and `s_(k+1) = LCG(s_k)`. -/
def lcgSeq (seed : Word) (k : Nat) : Word :=
  match k with
  | 0 => seed
  | k + 1 => lcg (lcgSeq seed k)

/-- R101: word i of the seeded state, `(s_(2i) & 0xFFFF0000) | (s_(2i+1) >> 16)`. -/
def seedWord (seed : Word) (i : Nat) : Word :=
  (lcgSeq seed (2 * i) &&& 0xFFFF0000) ||| (lcgSeq seed (2 * i + 1) >>> 16)

/-- R101: `SeedWords(seed)`. -/
@[irreducible] def seedWords (seed : Word) : Vector Word 624 :=
  ⟨((List.range 624).map (seedWord seed)).toArray, by simp⟩

/-- R102, R105: one recomputed word, from the current word, its successor and the word 397 ahead. -/
def twistWord (current successor ahead : Word) : Word :=
  let y := (current &&& 0x80000000) ||| (successor &&& 0x7FFFFFFF)
  ahead ^^^ (y >>> 1) ^^^ (if y.getLsbD 0 then Config.mtMatrixA else 0)

/-- R102: one pass of the loop, for index kk, in place. -/
def twistStep (kk : Nat) (h : kk < 624) (mt : Vector Word 624) : Vector Word 624 :=
  mt.set kk
    (twistWord mt[kk] (mt[(kk + 1) % 624]'(Nat.mod_lt _ (by decide)))
      (mt[(kk + 397) % 624]'(Nat.mod_lt _ (by decide)))) h

/-- R102: `TwistWords(mt)`, the words recomputed in place in increasing index order. -/
@[irreducible] def twistWords (mt : Vector Word 624) : Vector Word 624 := Nat.fold 624 twistStep mt

/-- R103: the shift-11 step. -/
def temperShift11 (y : Word) : Word := y ^^^ (y >>> 11)

/-- R103: the shift-7 step. -/
def temperShift7 (y : Word) : Word := y ^^^ ((y <<< 7) &&& Config.mtTemperB)

/-- R103: the shift-15 step. -/
def temperShift15 (y : Word) : Word := y ^^^ ((y <<< 15) &&& Config.mtTemperC)

/-- R103: the shift-18 step. -/
def temperShift18 (y : Word) : Word := y ^^^ (y >>> 18)

/-- R103: `Temper(y)`, each step applied to the running value. -/
def temper (y : Word) : Word :=
  temperShift18 (temperShift15 (temperShift7 (temperShift11 y)))

/-- R104: `Untemper(y)`: the shift-18 step, the shift-15 step, seven repetitions of the shift-7 step and three of the
shift-11 step. -/
def untemper (y : Word) : Word :=
  Nat.repeat temperShift11 3 (Nat.repeat temperShift7 7 (temperShift15 (temperShift18 y)))

/-- R105: `FirstOutput(seed)`, from words 0, 1 and 397 of the seeded state alone. -/
def firstOutput (seed : Word) : Word :=
  temper (twistWord (seedWord seed 0) (seedWord seed 1) (seedWord seed 397))

/-! ### The generator's two state changes -/

/-- R108: the seeded generator. -/
def State.seeded (s : State) (seed : Word) : State :=
  { s with mtState := seedWords seed, mtCursor := 624 }

/-- R109: the body of MT_TWIST, which seeds with 4357 first if the generator was never seeded. -/
def State.twisted (s : State) : State :=
  { s with
    mtState := twistWords (if s.mtCursor = 625 then seedWords Config.mtDefaultSeed else s.mtState)
    mtCursor := 0 }

/-- R110: the generator from which MT_NEXT reads, twisted first when the cursor is 624 or 625. -/
def State.readyForNext (s : State) : State :=
  if 624 ≤ s.mtCursor.val then s.twisted else s

/-- The word the cursor points at.  The default is never used by MT_NEXT: `readyForNext` leaves a cursor below 624. -/
def State.cursorWordAt (s : State) : Word := s.mtState[s.mtCursor.val]?.getD 0

/-! ### Meanings -/

/-- R108: MT_SEED. -/
def execMtSeed (s : State) : Host.Outcome State Fault Refusal :=
  succeed .mtSeed (s.seeded s.arg0)

/-- R109: MT_TWIST. -/
def execMtTwist (s : State) : Host.Outcome State Fault Refusal :=
  succeed .mtTwist s.twisted

/-- R110: MT_NEXT. -/
def execMtNext (s : State) : Host.Outcome State Fault Refusal :=
  let g := s.readyForNext
  succeed .mtNext
    { g with mtCursor := Fin.ofNat 626 (g.mtCursor.val + 1), res0 := temper g.cursorWordAt }

/-- R111: MT_TEMPER. -/
def execMtTemper (s : State) : Host.Outcome State Fault Refusal :=
  succeed .mtTemper { s with res0 := temper s.arg0 }

/-- R112: MT_UNTEMPER. -/
def execMtUntemper (s : State) : Host.Outcome State Fault Refusal :=
  succeed .mtUntemper { s with res0 := untemper s.arg0 }

/-- R113: MT_FIRST.  The generator is neither read nor written. -/
def execMtFirst (s : State) : Host.Outcome State Fault Refusal :=
  succeed .mtFirst { s with res0 := firstOutput s.arg0 }

end Sys2Proof.Machine
end

