-- ==== Sys2Proof/Machine/Substitution.lean ====
section
/-! DEFINITION. Rotating Substitution Cipher (43_substitution.md): the functions R190 to R192 and R194 and the meanings
of SUBST and SUBST_KEY (R195, R196). -/

namespace Sys2Proof.Machine

/-- R190: `Index(c)`, 0 to 25 for "A".."Z", 26 to 51 for "a".."z", none for every other byte. -/
def letterIndex (c : Byte) : Option Nat :=
  if 0x41 ≤ c.toNat ∧ c.toNat ≤ 0x5A then some (c.toNat - 0x41)
  else if 0x61 ≤ c.toNat ∧ c.toNat ≤ 0x7A then some (c.toNat - 0x61 + 26)
  else none

/-- R190: the letter of index j. -/
def letterAt (j : Nat) : Byte := if j < 26 then BitVec.ofNat 8 (0x41 + j) else BitVec.ofNat 8 (0x61 + (j - 26))

/-- R191: `Mirror(j)`, the letter whose index is 51 - j. -/
def mirror (j : Nat) : Byte := letterAt (51 - j)

/-- R192: one byte under the running key k: a letter is moved and mirrored, every other byte passes through. -/
def substByte (k : Nat) (c : Byte) : Byte :=
  match letterIndex c with
  | some i => mirror ((i + k) % 52)
  | none => c

/-- R192: the loop from running key k on: it stops at the first zero byte, and every byte processed, a letter or not,
moves the key by 1.  The number is how many bytes were processed. -/
def transformFrom (k : Nat) (buf : List Byte) : List Byte × Nat :=
  match buf with
  | [] => ([], 0)
  | c :: rest =>
    if c = 0 then (c :: rest, 0)
    else
      let out := transformFrom ((k + 1) % 52) rest
      (substByte k c :: out.1, out.2 + 1)

/-- R192: `Transform(buf, key)`. -/
def transform (buf : List Byte) (key : Byte) : List Byte × Nat := transformFrom (key.toNat % 52) buf

/-- R194: `PerEntryKey(toc_seed, entry_index)`, the sum of the four bytes of the first output, mod 256. -/
def perEntryKey (tocSeed entryIndex : Word) : Byte :=
  let v := firstOutput (tocSeed + entryIndex)
  v.extractLsb' 24 8 + v.extractLsb' 16 8 + v.extractLsb' 8 8 + v.extractLsb' 0 8

/-- R195: SUBST, in place on DBUF. -/
def execSubst (s : State) : Host.Outcome State Fault Refusal :=
  if substKeyOk s.arg0.toNat = false then raise .subst .invalidArgument s
  else if bufferLengthOk s.arg1.toNat = false then raise .subst .invalidArgument s
  else
    let out := transform (s.dbuf 0 s.arg1.toNat) (s.arg0.extractLsb' 0 8)
    succeed .subst { s.setDbuf 0 out.1 with res0 := BitVec.ofNat 32 out.2 }

/-- R196: SUBST_KEY. -/
def execSubstKey (s : State) : Host.Outcome State Fault Refusal :=
  succeed .substKey { s with res0 := (perEntryKey s.arg0 s.arg1).setWidth 32 }

end Sys2Proof.Machine
end

