-- ==== Sys2Proof/Machine/Archive.lean ====
section
/-! DEFINITION. Archive Decryptor (44_archive.md): the functions R212, R221, R222 and R225 and the meanings of
ARC_TOC_SET, ARC_TOC_CLR, ARC_HEADER, ARC_ENTRY and ARC_ABORT (R214 to R220, R224). -/

namespace Sys2Proof.Machine

/-! ### Functions -/

/-- R212: `IsKeyEntry(name)`: the marker and then zero bytes only, tested on the raw field. -/
def isKeyEntry (marker : Vector Byte 11) (name : List Byte) : Bool :=
  name.take 11 == marker.toList && (name.drop 11).all (· == 0)

/-- R221: `MetaDecrypt(P, S, m, i)`: the index is added to the little-endian 64-bit integer, mod 2^64, before the
block is decrypted. -/
def metaDecrypt (k : Schedule) (m : List Byte) (i : Word) : List Byte :=
  decryptBlock k (bytesLe64 (le64 m + i.setWidth 64))

/-- R222: `TrimLen(name)`: `p + 1` for the largest p with `name[p] != 0`, or 0. -/
def trimLen (name : List Byte) : Nat :=
  match name with
  | [] => 0
  | b :: rest => if trimLen rest = 0 ∧ b = 0 then 0 else trimLen rest + 1

/-- R225: `ArchiveKey(keyseed) = bytes_le32(FirstOutput(keyseed))`. -/
def archiveKey (keyseed : Word) : List Byte := bytesLe32 (firstOutput keyseed)

/-! ### Archive state changes -/

/-- R216: "a new archive begins": the counters, the encrypted flag, the key seed and the archive error are cleared. -/
def State.newArchive (s : State) : State :=
  { s with arcCount := 0, arcIndex := 0, arcRows := 0, arcEnc := false, arcKeyseed := 0, arcErr := .ok }

/-- R217: the index moves by 1, and the sequencer to Done after the last record. -/
def State.advanceEntry (s : State) : State :=
  { s with
    arcIndex := s.arcIndex + 1
    arcState := if s.arcIndex + 1 = s.arcCount then .done else s.arcState }

/-- R218: the key-entry branch, which builds a fresh schedule and emits no row. -/
def State.keyEntry (s : State) : State :=
  let keyseed := le32 (s.ebuf 68 4)
  { s.withSchedule (archiveKey keyseed) true 4 with
    arcEnc := true
    arcKeyseed := keyseed
    res0 := 0
    res1 := 11
    res2 := s.arcIndex }

/-- R219, R220: one output row, the record as EBUF holds it now. -/
def State.emitRow (s : State) : State :=
  { s with
    arcRows := s.arcRows + 1
    res0 := 1
    res1 := BitVec.ofNat 32 (trimLen (s.ebuf 0 64))
    res2 := s.arcIndex }

/-- R219: the record decrypted in place: the filename by the substitution cipher under the entry's key, the metadata by
the block cipher. -/
def State.decryptRecord (s : State) : State :=
  (s.setEbuf 0 (transform (s.ebuf 0 64) (perEntryKey s.tocSeed s.arcIndex)).1).setEbuf 64
    (metaDecrypt s.bf (s.ebuf 64 8) s.arcIndex)

/-! ### Meanings -/

/-- R214: ARC_TOC_SET. -/
def execArcTocSet (s : State) : Host.Outcome State Fault Refusal :=
  if s.arcState = .entries then raise .arcTocSet .stateError s
  else succeed .arcTocSet { s with tocSeed := s.arg0, tocValid := true }

/-- R215: ARC_TOC_CLR.  TOC_SEED keeps its value. -/
def execArcTocClr (s : State) : Host.Outcome State Fault Refusal :=
  if s.arcState = .entries then raise .arcTocClr .stateError s
  else succeed .arcTocClr { s with tocValid := false }

/-- R216: ARC_HEADER, allowed in every archive state. -/
def execArcHeader (s : State) : Host.Outcome State Fault Refusal :=
  if availableOk s.arg1.toNat = false then raise .arcHeader .invalidArgument s
  else if s.arg1.toNat < 4 ∨ s.ebuf 0 4 ≠ s.params.magic.toList then
    archiveError .arcHeader .badSignature s.newArchive
  else if s.arg1.toNat < Config.headerBytes then archiveError .arcHeader .truncatedEntry s.newArchive
  else
    let count := le32 (s.ebuf 4 4)
    succeed .arcHeader
      { s.newArchive with arcCount := count, arcState := if count = 0 then .done else .entries }

/-- R217: ARC_ENTRY, one record, with the branches of R218, R219 and R220. -/
def execArcEntry (s : State) : Host.Outcome State Fault Refusal :=
  if availableOk s.arg1.toNat = false then raise .arcEntry .invalidArgument s
  else if s.arcState ≠ .entries then raise .arcEntry .stateError s
  else if s.arg1.toNat < Config.entryBytes then archiveError .arcEntry .truncatedEntry s
  else if isKeyEntry s.params.keyMarker (s.ebuf 0 64) = true then
    succeed .arcEntry s.keyEntry.advanceEntry
  else if s.arcEnc = true then
    if s.tocValid = false then archiveError .arcEntry .missingTocSeed s
    else succeed .arcEntry s.decryptRecord.emitRow.advanceEntry
  else succeed .arcEntry s.emitRow.advanceEntry

/-- R224: ARC_ABORT, allowed in every archive state; everything but ARC_STATE keeps its value. -/
def execArcAbort (s : State) : Host.Outcome State Fault Refusal :=
  succeed .arcAbort { s with arcState := .idle }

end Sys2Proof.Machine
end

