-- ==== Sys2Proof/Machine/Control.lean ====
section
/-! DEFINITION. Control (45_control.md): NOP and CORE_RESET (R250, R251), and the hardware reset
(70_reset_and_hazards.md R290). -/

namespace Sys2Proof.Machine

/-- R250: NOP, which only completes. -/
def execNop (s : State) : Host.Outcome State Fault Refusal := succeed .nop s

/-- R251: what CORE_RESET clears.  MT_STATE, BF_P, BF_S, DBUF and EBUF keep their contents.  DEDUCED, unsafe
only if R22, R31 and R33 bind CORE_RESET against R251 (notes/assumptions/9.md). -/
def State.coreReset (s : State) : State :=
  { s with
    arg0 := 0, arg1 := 0, arg2 := 0
    res0 := 0, res1 := 0, res2 := 0
    mtCursor := 625
    bfValid := false, bfOwnerArc := false, bfKeylen := 0
    tocSeed := 0, tocValid := false
    arcState := .idle
    arcCount := 0, arcIndex := 0, arcRows := 0, arcKeyseed := 0
    arcEnc := false, arcErr := .ok
    ovr := false }

/-- R251: CORE_RESET. -/
def execCoreReset (s : State) : Host.Outcome State Fault Refusal := succeed .coreReset s.coreReset

/-- R290: a hardware reset: every element of the core takes its value of R40 and a running command is abandoned.  The
model's own fields are the outside world's and stay: DESIGN CHOICE, safe (notes/assumptions/13.md). -/
def State.hardReset (s : State) : State :=
  { State.reset with
    params := s.params
    hostQueue := s.hostQueue
    hostReads := s.hostReads
    latencies := s.latencies
    freeIndex := s.freeIndex }

end Sys2Proof.Machine
end

