-- ==== Sys2Proof/Machine/SeedDerivation.lean ====
section
/-! DEFINITION. Seed Derivation (42_seed_derivation.md): the checksum R170 and R171, the salted seeds R173 and the
meaning of SEED_DERIVE (R174). -/

namespace Sys2Proof.Machine

/-- R170: one of the 8 rounds: the top bit is tested before the shift, and the bit shifted out is lost. -/
def crcRound (acc : Word) : Word :=
  if acc.getLsbD 31 then (acc <<< 1) ^^^ Config.crcPoly else acc <<< 1

/-- R170: `CrcStep(acc, b)`, which complements the accumulator after every byte. -/
def crcStep (acc : Word) (b : Byte) : Word :=
  ~~~ (Nat.repeat crcRound 8 (acc ^^^ (b.setWidth 32 <<< 24)))

/-- R171: `Logical(code)`, the bytes before the first zero byte. -/
def logical (code : List Byte) : List Byte := code.takeWhile (· != 0)

/-- R171: `VersionCodeToSeed(code)`. -/
def versionCodeToSeed (code : List Byte) : Word := (logical code).foldl crcStep Config.crcInit

/-- R173: the seed of the logical content of a code followed by a salt. -/
def saltedSeed (code salt : List Byte) : Word := versionCodeToSeed (logical code ++ salt)

/-- R172: how a key type makes a seed from the open parameters, the code and the volume identifier; none for an
unsupported one. -/
def seedOfKeyType (k : KeyType) : Option (Params → List Byte → Word → Word) :=
  match k with
  | .direct => some fun _ code _ => versionCodeToSeed code
  | .volumeBound => some fun _ code volumeId => versionCodeToSeed code + volumeId
  | .common => some fun p code _ => saltedSeed code p.commonSalt
  | .debug => some fun p code _ => saltedSeed code p.debugSalt
  | .activate => none
  | .legacyGlobal => none
  | .archiveInternalDummy => none

/-- R174: SEED_DERIVE.  The tag is checked before the length. -/
def execSeedDerive (s : State) : Host.Outcome State Fault Refusal :=
  match (keyTypeOf s.arg0).bind seedOfKeyType with
  | none => raise .seedDerive .unsupportedKeyType s
  | some seed =>
    if bufferLengthOk s.arg1.toNat = false then raise .seedDerive .invalidArgument s
    else succeed .seedDerive { s with res0 := seed s.params (s.dbuf 0 s.arg1.toNat) s.arg2 }

end Sys2Proof.Machine
end

