-- ==== Sys2Proof/Machine/Dispatch.lean ====
section
/-! DEFINITION. The execution of one command (30_encoding.md R74): one arm per command, each one call of its meaning. -/

namespace Sys2Proof.Machine

def exec (i : Instr) (s : State) : Host.Outcome State Fault Refusal :=
  match i with
  | .nop => Sys2Proof.Machine.execNop s
  | .mtSeed => Sys2Proof.Machine.execMtSeed s
  | .mtTwist => Sys2Proof.Machine.execMtTwist s
  | .mtNext => Sys2Proof.Machine.execMtNext s
  | .mtTemper => Sys2Proof.Machine.execMtTemper s
  | .mtUntemper => Sys2Proof.Machine.execMtUntemper s
  | .mtFirst => Sys2Proof.Machine.execMtFirst s
  | .bfKey => Sys2Proof.Machine.execBfKey s
  | .bfEncb => Sys2Proof.Machine.execBfEncb s
  | .bfDecb => Sys2Proof.Machine.execBfDecb s
  | .bfEnc => Sys2Proof.Machine.execBfEnc s
  | .bfDec => Sys2Proof.Machine.execBfDec s
  | .seedDerive => Sys2Proof.Machine.execSeedDerive s
  | .subst => Sys2Proof.Machine.execSubst s
  | .substKey => Sys2Proof.Machine.execSubstKey s
  | .arcTocSet => Sys2Proof.Machine.execArcTocSet s
  | .arcTocClr => Sys2Proof.Machine.execArcTocClr s
  | .arcHeader => Sys2Proof.Machine.execArcHeader s
  | .arcEntry => Sys2Proof.Machine.execArcEntry s
  | .arcAbort => Sys2Proof.Machine.execArcAbort s
  | .coreReset => Sys2Proof.Machine.execCoreReset s

end Sys2Proof.Machine
end

