-- ==== Sys2Proof/Machine/Flags.lean ====
section
/-! DEFINITION. The status registers, composed from their fields: STATUS (10_state.md R25), BF_INFO (R30) and ARC_STATUS
(R35), and the encodings of the error codes (60_exceptions.md R260) and of ARC_STATE (R32).  There are no condition
codes (30_encoding.md R78). -/

namespace Sys2Proof.Machine

/-- R260: the number of an error code. -/
def ErrCode.code (e : ErrCode) : Byte :=
  match e with
  | .ok => 0
  | .invalidArgument => 1
  | .badSignature => 2
  | .missingTocSeed => 3
  | .unsupportedKeyType => 4
  | .truncatedEntry => 5
  | .illegalCommand => 6
  | .stateError => 7

/-- R32: the encoding of ARC_STATE. -/
def ArcState.code (a : ArcState) : BitVec 2 :=
  match a with
  | .idle => 0
  | .entries => 1
  | .done => 2
  | .fatal => 3

/-- R38: BUSY = 1 exactly when PENDING is not none. -/
def State.busy (s : State) : Bool := s.pending.isSome

/-- One bit as a 32-bit value. -/
def bit (b : Bool) : Word := if b then 1 else 0

/-- R25: STATUS, with BUSY in bit 0, OVR in bit 1, ERR in bits 15:8, LASTOP in bits 23:16 and zeros elsewhere. -/
def State.statusWord (s : State) : Word :=
  bit s.busy ||| (bit s.ovr <<< 1) ||| (s.err.code.setWidth 32 <<< 8) ||| (s.lastop.setWidth 32 <<< 16)

/-- R30: BF_INFO, with BF_VALID in bit 0, BF_OWNER_ARC in bit 1, BF_KEYLEN in bits 13:8 and zeros elsewhere. -/
def State.bfInfoWord (s : State) : Word :=
  bit s.bfValid ||| (bit s.bfOwnerArc <<< 1) ||| (s.bfKeylen.setWidth 32 <<< 8)

/-- R35: ARC_STATUS, with ARC_STATE in bits 1:0, ARC_ENC in bit 2, TOC_VALID in bit 3, ARC_ERR in bits 15:8 and zeros
elsewhere. -/
def State.arcStatusWord (s : State) : Word :=
  s.arcState.code.setWidth 32 ||| (bit s.arcEnc <<< 2) ||| (bit s.tocValid <<< 3) |||
    (s.arcErr.code.setWidth 32 <<< 8)

/-- R28: MT_CURSOR as bits 9:0, with zeros above. -/
def State.cursorWord (s : State) : Word := BitVec.ofNat 32 s.mtCursor.val

end Sys2Proof.Machine
end

