-- ==== Sys2Proof/Machine/Window.lean ====
section
/-! DEFINITION. The register window (20_memory.md): the address map R51, what a read of a word returns and what a write
to it stores, with BUSY = 0 (R52, R54, R56, R58).  A CMD write is the one write with a side effect: it issues a command
(30_encoding.md R74). -/

namespace Sys2Proof.Machine

/-- R51: what an aligned offset of the window names. -/
inductive WindowWord where
  /-- 0x000, read only. -/
  | id
  /-- 0x004, read only. -/
  | status
  /-- 0x008, write only. -/
  | cmd
  /-- 0x010. -/
  | arg0
  /-- 0x014. -/
  | arg1
  /-- 0x018. -/
  | arg2
  /-- 0x020, read only. -/
  | res0
  /-- 0x024, read only. -/
  | res1
  /-- 0x028, read only. -/
  | res2
  /-- 0x030, read only. -/
  | mtCursor
  /-- 0x034, read only. -/
  | bfInfo
  /-- 0x040, read only. -/
  | arcStatus
  /-- 0x044, read only. -/
  | arcCount
  /-- 0x048, read only. -/
  | arcIndex
  /-- 0x04C, read only. -/
  | arcRows
  /-- 0x050, read only. -/
  | arcKeyseed
  /-- 0x054, read only. -/
  | tocSeed
  /-- 0x200 + k: the word of DBUF[k:k+4]. -/
  | dbuf (k : Nat)
  /-- 0x300 + k: the word of EBUF[k:k+4]. -/
  | ebuf (k : Nat)
  /-- 0x1000 + 4k: MT_STATE[k], read only. -/
  | mtState (k : Nat)
  /-- Every other word (R52). -/
  | reserved
deriving DecidableEq, Repr

/-- R51: the address map, on aligned offsets below 0x2000. -/
def windowWord (a : Nat) : WindowWord :=
  if a = 0x000 then .id
  else if a = 0x004 then .status
  else if a = 0x008 then .cmd
  else if a = 0x010 then .arg0
  else if a = 0x014 then .arg1
  else if a = 0x018 then .arg2
  else if a = 0x020 then .res0
  else if a = 0x024 then .res1
  else if a = 0x028 then .res2
  else if a = 0x030 then .mtCursor
  else if a = 0x034 then .bfInfo
  else if a = 0x040 then .arcStatus
  else if a = 0x044 then .arcCount
  else if a = 0x048 then .arcIndex
  else if a = 0x04C then .arcRows
  else if a = 0x050 then .arcKeyseed
  else if a = 0x054 then .tocSeed
  else if 0x200 ≤ a ∧ a ≤ 0x2FF then .dbuf (a - 0x200)
  else if 0x300 ≤ a ∧ a ≤ 0x347 then .ebuf (a - 0x300)
  else if 0x1000 ≤ a ∧ a ≤ 0x19BF then .mtState ((a - 0x1000) / 4)
  else .reserved

/-- What a host read of the word at an offset returns while BUSY = 0 (R22 to R37, R52, R54, R58). -/
def State.windowRead (s : State) (a : Nat) : Word :=
  match windowWord a with
  | .id => Config.idValue
  | .status => s.statusWord
  | .cmd => 0
  | .arg0 => s.arg0
  | .arg1 => s.arg1
  | .arg2 => s.arg2
  | .res0 => s.res0
  | .res1 => s.res1
  | .res2 => s.res2
  | .mtCursor => s.cursorWord
  | .bfInfo => s.bfInfoWord
  | .arcStatus => s.arcStatusWord
  | .arcCount => s.arcCount
  | .arcIndex => s.arcIndex
  | .arcRows => s.arcRows
  | .arcKeyseed => s.arcKeyseed
  | .tocSeed => s.tocSeed
  | .dbuf k => le32 (s.dbuf k 4)
  | .ebuf k => le32 (s.ebuf k 4)
  | .mtState k => s.mtState[k]?.getD 0
  | .reserved => 0

/-- R74, R296: a CMD write while BUSY = 0 is accepted: the word is latched and the next latency begins. -/
def State.issue (s : State) (v : Word) : State :=
  { s with pending := some v, wait := s.latencies.headD 0, latencies := s.latencies.tail }

/-- What a host write of v to the word at an offset does while BUSY = 0 (R22, R52, R54, R74).  Writes to read-only and
reserved words are ignored. -/
def State.windowWrite (s : State) (a : Nat) (v : Word) : State :=
  match windowWord a with
  | .cmd => s.issue v
  | .arg0 => { s with arg0 := v }
  | .arg1 => { s with arg1 := v }
  | .arg2 => { s with arg2 := v }
  | .dbuf k => s.setDbuf k (bytesLe32 v)
  | .ebuf k => s.setEbuf k (bytesLe32 v)
  | .id => s
  | .status => s
  | .res0 => s
  | .res1 => s
  | .res2 => s
  | .mtCursor => s
  | .bfInfo => s
  | .arcStatus => s
  | .arcCount => s
  | .arcIndex => s
  | .arcRows => s
  | .arcKeyseed => s
  | .tocSeed => s
  | .mtState _ => s
  | .reserved => s

/-! ### Host accesses -/

/-- R53: an access of another width, a misaligned access or an access outside the window is refused; any other goes on as
`k` says.  The names and the order of the tests are a DESIGN CHOICE, safe (notes/assumptions/7.md). -/
def checkedAccess (addr n : Nat) (k : State) : Host.Outcome State Fault Refusal :=
  if n ≠ 4 then .refused (.accessWidth n)
  else if addr % 4 ≠ 0 then .refused (.misalignedAccess addr)
  else if Config.windowBytes ≤ addr then .refused (.outsideWindow addr)
  else .next k

/-- The host has taken its next event: `rest` are the ones after it. -/
def State.withQueue (s : State) (rest : List HostOp) : State := { s with hostQueue := rest }

/-- The host's read returned v. -/
def State.logRead (s : State) (v : Word) : State := { s with hostReads := v :: s.hostReads }

/-- A free value has been used; the next one is another. -/
def State.nextFree (s : State) : State := { s with freeIndex := s.freeIndex + 1 }

/-- One of the steps that a latched command waits is over (R296). -/
def State.tick (s : State) : State := { s with wait := s.wait - 1 }

/-- R271, R295: an overrun. -/
def State.overrun (s : State) : State := { s with ovr := true }

/-- R297: a read while BUSY = 1 returns ID and STATUS as they are and an unspecified value for every other word; a read
while BUSY = 0 returns the word.  Reads have no side effect on the core (R56). -/
def State.hostRead (s : State) (a : Nat) : State :=
  if s.busy = true ∧ windowWord a ≠ .id ∧ windowWord a ≠ .status then
    (s.logRead (Config.busyRead s.freeIndex)).nextFree
  else s.logRead (s.windowRead a)

/-- R74, R295: a write while BUSY = 1 is dropped, whatever its offset, and sets OVR. -/
def State.hostWrite (s : State) (a : Nat) (v : Word) : State :=
  if s.busy = true then s.overrun else s.windowWrite a v

/-- One event from outside.  A poll that reads BUSY = 1 stays at the front of the queue (R80). -/
def hostOp (op : HostOp) (rest : List HostOp) (s : State) : Host.Outcome State Fault Refusal :=
  match op with
  | .read addr n => checkedAccess addr n ((s.withQueue rest).hostRead addr)
  | .write addr n v => checkedAccess addr n ((s.withQueue rest).hostWrite addr v)
  | .poll => .next (s.withQueue (if s.busy = true then .poll :: rest else rest))
  | .hardReset => .next (s.withQueue rest).hardReset

/-- The next event from outside, if there is one; otherwise the core waits for the next CMD write (R262):
DESIGN CHOICE, safe (notes/assumptions/15.md). -/
def hostStep (s : State) : Host.Outcome State Fault Refusal :=
  match s.hostQueue with
  | [] => .next s
  | op :: rest => hostOp op rest s

end Sys2Proof.Machine
end

