-- ==== Sys2Proof/Machine/Sequencer.lean ====
section
/-! DEFINITION. The core's sequencer (30_encoding.md R74): it performs one latched command at a time, atomically, and
between commands the host's accesses take effect one at a time in order (20_memory.md R59). -/

namespace Sys2Proof.Machine

/-- R74: the atomic step of the latched command word w. -/
def runPending (w : Word) (s : State) : Host.Outcome State Fault Refusal :=
  match decodeWord w with
  | .ok i => exec i s
  | .error _ => completeIllegal w s

/-- R296: while BUSY = 1 the command still waits; the host's access of this step comes before it. -/
def waitingStep (s : State) : Host.Outcome State Fault Refusal :=
  hostStep s.tick

/-- The bits of a table word of nbits bits as a command word, zeros above them. -/
def tableWord (nbits w : Nat) : Word := BitVec.ofNat 32 (w % 2 ^ nbits)

end Sys2Proof.Machine
end

