-- ==== Sys2Proof/Machine/Step.lean ====
section
/-! DEFINITION. One step of the machine: the latched command if its latency is over, otherwise the next event from
outside. -/

namespace Sys2Proof.Machine

/-- R59, R74, R296. -/
def step (s : State) : Host.Outcome State Fault Refusal :=
  match s.pending with
  | some w => if s.wait = 0 then runPending w s else waitingStep s
  | none => hostStep s

/-- s with the command word of a table row latched and its latency over, so that the very next step runs it.  It stands
for the host's CMD write (R74), the only way a command comes to the core (notes/assumptions/6.md). -/
def State.withFetchWord (s : State) (nbits w : Nat) : State :=
  { s with pending := some (tableWord nbits w), wait := 0 }

end Sys2Proof.Machine
end

