-- ==== Sys2Proof/Machine/HostProgram.lean ====
section
/-! DEFINITION. Host-program syntax (30_encoding.md R80 to R82): the register names and the pseudo-instructions CALL, WBUF
and RBUF as the host accesses they expand to. -/

namespace Sys2Proof.Machine

/-- R80: the names a host program may use for an offset (R51). -/
inductive RegName where
  | id | status | cmd | arg0 | arg1 | arg2 | res0 | res1 | res2 | mtCursor | bfInfo
  | arcStatus | arcCount | arcIndex | arcRows | arcKeyseed | tocSeed
  /-- `DBUF+n`. -/
  | dbuf (n : Nat)
  /-- `EBUF+n`. -/
  | ebuf (n : Nat)
  /-- `MT_STATE+n`. -/
  | mtState (n : Nat)
deriving DecidableEq, Repr

/-- R51, R80: the offset of a name. -/
def RegName.offset (r : RegName) : Nat :=
  match r with
  | .id => 0x000
  | .status => 0x004
  | .cmd => 0x008
  | .arg0 => 0x010
  | .arg1 => 0x014
  | .arg2 => 0x018
  | .res0 => 0x020
  | .res1 => 0x024
  | .res2 => 0x028
  | .mtCursor => 0x030
  | .bfInfo => 0x034
  | .arcStatus => 0x040
  | .arcCount => 0x044
  | .arcIndex => 0x048
  | .arcRows => 0x04C
  | .arcKeyseed => 0x050
  | .tocSeed => 0x054
  | .dbuf n => Config.dbufBase + n
  | .ebuf n => Config.ebufBase + n
  | .mtState n => Config.mtStateBase + n

/-- R80: `R <reg>`. -/
def readReg (r : RegName) : HostOp := .read r.offset 4

/-- R80: `W <reg>, <v>`. -/
def writeReg (r : RegName) (v : Word) : HostOp := .write r.offset 4 v

/-- The `W` of an operand, if the operand is given (R81). -/
def writeGiven (r : RegName) (v : Option Word) : List HostOp :=
  match v with
  | some v => [writeReg r v]
  | none => []

/-- R81: `CALL <mnemonic> [a0 [, a1 [, a2]]]`. -/
def call (i : Instr) (a0 a1 a2 : Option Word := none) : List HostOp :=
  writeGiven .arg0 a0 ++ writeGiven .arg1 a1 ++ writeGiven .arg2 a2 ++ [writeReg .cmd (encodeWord i), .poll]

/-- R82: one `W` per 4 bytes from offset a on; a last group of fewer than 4 is padded with zero bytes (`LE32` reads a
missing byte as 0). -/
def wbuf (a : Nat) (bytes : List Byte) : List HostOp :=
  match bytes with
  | b0 :: b1 :: b2 :: b3 :: rest => .write a 4 (le32 [b0, b1, b2, b3]) :: wbuf (a + 4) rest
  | [] => []
  | rest => [.write a 4 (le32 rest)]

/-- R82: the `R` accesses of the words that cover `count` bytes from offset a on; no word covers zero bytes. -/
def rbuf (a count : Nat) : List HostOp :=
  if count = 0 then []
  else (List.range ((a + count + 3) / 4 - a / 4)).map fun j => .read (4 * (a / 4 + j)) 4

end Sys2Proof.Machine
end

