-- ==== Sys2Proof/Safety.lean ====
section
/-! DEFINITION. The terms the claims are stated in: the invariants that every step of FS2-CORE keeps, and what it is for
a step to leave bytes alone. -/

namespace Sys2Proof.Machine

/-- The n-fold twist of a state of the generator (R102). -/
def twistTimes (n : Nat) (mt : Vector Word 624) : Vector Word 624 := Nat.repeat twistWords n mt

/-- R39, the generator invariant: unless the generator is unseeded, its words come from a seed by some number of twists,
and a cursor below 624 means at least one. -/
def State.generatorInv (s : State) : Prop :=
  s.mtCursor ≠ 625 →
    ∃ seed n, s.mtState = twistTimes n (seedWords seed) ∧ (s.mtCursor.val < 624 → 1 ≤ n)

/-- R29, R30: BF_VALID = 1 means that the schedule is the one of some key of BF_KEYLEN bytes, 1 to 56; BF_VALID = 0 means
that the two other fields read 0. -/
def State.scheduleInv (s : State) : Prop :=
  (s.bfValid = false → s.bfOwnerArc = false ∧ s.bfKeylen = 0) ∧
    (s.bfValid = true →
      1 ≤ s.bfKeylen.toNat ∧ s.bfKeylen.toNat ≤ 56 ∧
        ∃ key, key.length = s.bfKeylen.toNat ∧ s.bf = keySchedule key)

/-- R33, R34: the counters of the archive are in order, an archive in Entries has records left, one in Done has none,
ARC_ERR says why an archive is Fatal and is 0 in Entries and Done, and an unencrypted archive has key seed 0. -/
def State.countersInv (s : State) : Prop :=
  s.arcRows.toNat ≤ s.arcIndex.toNat ∧ s.arcIndex.toNat ≤ s.arcCount.toNat ∧
    (s.arcState = .entries → s.arcIndex.toNat < s.arcCount.toNat ∧ s.arcErr = .ok) ∧
    (s.arcState = .done → s.arcIndex = s.arcCount ∧ s.arcErr = .ok) ∧
    (s.arcState = .fatal →
      s.arcErr = .badSignature ∨ s.arcErr = .missingTocSeed ∨ s.arcErr = .truncatedEntry) ∧
    (s.arcEnc = false → s.arcKeyseed = 0)

/-- R218, R298: while an encrypted archive is being decoded, the schedule is the one its key entry built. -/
def State.archiveKeyInv (s : State) : Prop :=
  s.arcState = .entries → s.arcEnc = true →
    s.bfValid = true ∧ s.bfOwnerArc = true ∧ s.bfKeylen = 4 ∧ s.bf = keySchedule (archiveKey s.arcKeyseed)

/-- The byte storage is in canonical form (DESIGN CHOICE, safe, notes/assumptions/13.md) and holds nothing but DBUF and EBUF
(R50). -/
def State.storageInv (s : State) : Prop := s.mem.wf = true ∧ s.mem.inBuffers = true

/-- What every step keeps. -/
structure State.Inv (s : State) : Prop where
  generator : s.generatorInv
  schedule : s.scheduleInv
  counters : s.countersInv
  archiveKey : s.archiveKeyInv
  storage : s.storageInv

/-- Every byte outside the n bytes from offset a on reads as before. -/
def unchangedOutside (before after : Memory) (a n : Nat) : Prop :=
  ∀ x, x < a ∨ a + n ≤ x → after.read x = before.read x

/-- Every byte reads as before. -/
def unchangedEverywhere (before after : Memory) : Prop := ∀ x, after.read x = before.read x

/-- The command that the next step runs, if it runs one: the latched word decodes and its latency is over (R74). -/
def State.runs (s : State) (i : Instr) : Prop :=
  ∃ w, s.pending = some w ∧ s.wait = 0 ∧ decodeWord w = .ok i

/-- The next event from outside is a hardware reset. -/
def State.resetNext (s : State) : Prop := ∃ rest, s.hostQueue = .hardReset :: rest

/-- A host that puts 72-byte records into EBUF one after another and issues ARC_ENTRY for each (R210, R217). -/
def decodeRecords (records : List (List Byte)) (s : State) : Host.Outcome State Fault Refusal :=
  match records with
  | [] => .next s
  | r :: rest =>
    match exec .arcEntry ({ s with arg1 := 72 }.setEbuf 0 r) with
    | .next t => decodeRecords rest t
    | .fault f => .fault f
    | .refused f => .refused f

/-- How many of the records IsKeyEntry recognises (R212, R223). -/
def keyEntries (marker : Vector Byte 11) (records : List (List Byte)) : Nat :=
  (records.filter fun r => isKeyEntry marker (r.take 64)).length

end Sys2Proof.Machine
end

