-- ==== Sys2Proof/Certificates/Slice0/Obligations.lean ====
section
/-! DEFINITION. The statements about FS2-CORE, from the numbered rules of spec/.  Each is a proposition; none is proved
here.  A statement about every state is also a statement about every value of the open parameters and of the free
values, and about memory that holds anything: none rests on a value the model chose for reset.  In a statement about a
host access, `hostQueue`, `hostReads`, `wait`, `latencies` and `freeIndex` are the model's own bookkeeping of what the host
does and of BUSY_LATENCY (notes/assumptions/6.md, 8.md, 11.md); in one about `exec`, "t = the state with ..." is the frame. -/

open Sys2Proof Sys2Proof.Machine

/-! ### Encoding -/

/-- R70, R72, R79: decoding and encoding agree in both directions, on words and on byte strings. -/
def Obligations.DecodeAndEncodeAgree : Prop :=
  (∀ i rest, decode (encode i ++ rest) = .ok (i, rest)) ∧
    (∀ w i, decodeWord w = .ok i ↔ w = encodeWord i) ∧
    (∀ bytes i rest, decode bytes = .ok (i, rest) ↔ bytes = encode i ++ rest)

/-- R71, R73: the illegal words are exactly those with RSV not 0 or with an OPC of the ranges R73 lists, and such a
command completes with ERR = 6 and no other effect than the status of its completion (R74). -/
def Obligations.IllegalWordsOnlyReport : Prop :=
  (∀ w : Word, (∃ e, decodeWord w = .error e) ↔
      (w.extractLsb' 8 24 ≠ 0 ∨ opcodeUnassigned (w.extractLsb' 0 8).toNat = true)) ∧
    ∀ (s : State) (w : Word), s.pending = some w → s.wait = 0 →
      (w.extractLsb' 8 24 ≠ 0 ∨ opcodeUnassigned (w.extractLsb' 0 8).toNat = true) →
      step s = .next { s with err := .illegalCommand, lastop := w.extractLsb' 0 8, pending := none }

/-- R72: some of the table's words, written out, decode to their commands, and some reserved ones to none. -/
def Obligations.TableWordsDecode : Prop :=
  decodeTableWord 32 0x00 = some .nop ∧ decodeTableWord 32 0x03 = some .mtNext ∧
    decodeTableWord 32 0x06 = some .mtFirst ∧ decodeTableWord 32 0x10 = some .bfKey ∧
    decodeTableWord 32 0x14 = some .bfDec ∧ decodeTableWord 32 0x20 = some .seedDerive ∧
    decodeTableWord 32 0x31 = some .substKey ∧ decodeTableWord 32 0x43 = some .arcEntry ∧
    decodeTableWord 32 0xFF = some .coreReset ∧ decodeTableWord 32 0x07 = none ∧
    decodeTableWord 32 0x100 = none

/-! ### The sequencer -/

/-- R74: when the latched word decodes to a command and its latency is over, the step is the execution of that command;
the step adds nothing around it (there is no program counter to move, R21).  The same for a word given as bytes. -/
def Obligations.StepRunsLatchedCommand : Prop :=
  (∀ (s : State) (w : Word) (i : Instr), s.pending = some w → s.wait = 0 → decodeWord w = .ok i →
      step s = exec i s) ∧
    (∀ (s : State) (b0 b1 b2 b3 : Byte) (i : Instr),
      decode [b0, b1, b2, b3] = .ok (i, []) → s.pending = some (le32 [b0, b1, b2, b3]) → s.wait = 0 →
      step s = exec i s)

/-- R74, R78, R262: every command answers a next state, whatever the state: it reports its opcode in LASTOP, clears
PENDING, and leaves BUSY 0; no command traps or stops. -/
def Obligations.EveryCommandCompletes : Prop :=
  ∀ (i : Instr) (s : State), ∃ t, exec i s = .next t ∧ t.lastop = opcode i ∧ t.pending = none ∧ t.busy = false

/-- R12, R296: a command completes: after at most `wait + 1` steps no command is pending, provided the host makes only
accesses that R53 defines. -/
def Obligations.PendingCommandEnds : Prop :=
  ∀ (s : State) (w : Word), s.pending = some w → (∀ op ∈ s.hostQueue, op.wf = true) →
    ∃ k t, k ≤ s.wait + 1 ∧ Host.Core.run core k s = .next t ∧ State.pending t = none

/-- R26: a host write of CMD while BUSY = 0 latches the word and nothing else of the core; a host read of CMD returns 0
and has no effect. -/
def Obligations.CmdWriteIssuesCommand : Prop :=
  ∀ (s : State) (rest : List HostOp), s.pending = none →
    (∀ v, s.hostQueue = .write 0x008 4 v :: rest →
      step s = .next { s with hostQueue := rest, pending := some v, wait := s.latencies.headD 0,
                              latencies := s.latencies.tail }) ∧
    (s.hostQueue = .read 0x008 4 :: rest →
      step s = .next { s with hostQueue := rest, hostReads := 0 :: s.hostReads })

/-- R295: while BUSY = 1, every host write to every offset of the window is dropped and sets OVR, with no other effect;
so nothing but a hardware reset changes what the waiting command will read. -/
def Obligations.BusyWritesAreDropped : Prop :=
  (∀ (s : State) (w : Word) (a : Nat) (v : Word) (rest : List HostOp),
      s.pending = some w → s.wait ≠ 0 → s.hostQueue = .write a 4 v :: rest → a % 4 = 0 → a < 0x2000 →
      step s = .next { s with hostQueue := rest, wait := s.wait - 1, ovr := true }) ∧
    ∀ (s t : State) (w : Word), s.pending = some w → s.wait ≠ 0 → ¬ s.resetNext → step s = .next t →
      t = { s with ovr := t.ovr, hostQueue := t.hostQueue, hostReads := t.hostReads, freeIndex := t.freeIndex,
                   wait := s.wait - 1 }

/-- R297: while BUSY = 1, a host read of ID returns ID_VALUE, a read of STATUS returns the current STATUS (with BUSY = 1),
and a read of any other word returns an unspecified value; none has any effect on the core. -/
def Obligations.BusyReads : Prop :=
  ∀ (s : State) (w : Word) (a : Nat) (rest : List HostOp),
    s.pending = some w → s.wait ≠ 0 → s.hostQueue = .read a 4 :: rest → a % 4 = 0 → a < 0x2000 →
    (a = 0x000 → step s = .next { s with hostQueue := rest, wait := s.wait - 1,
                                         hostReads := 0x43325346 :: s.hostReads }) ∧
    (a = 0x004 → step s = .next { s with hostQueue := rest, wait := s.wait - 1,
                                         hostReads := s.statusWord :: s.hostReads } ∧
      s.statusWord.extractLsb' 0 1 = 1) ∧
    (a ≠ 0x000 → a ≠ 0x004 →
      step s = .next { s with hostQueue := rest, wait := s.wait - 1, freeIndex := s.freeIndex + 1,
                              hostReads := Config.busyRead s.freeIndex :: s.hostReads })

/-- R60, R80: a poll stays in front while BUSY = 1, and ends when BUSY = 0; neither has an effect on the core. -/
def Obligations.PollWaitsForCompletion : Prop :=
  ∀ (s : State) (rest : List HostOp), s.hostQueue = .poll :: rest →
    (s.pending = none → step s = .next { s with hostQueue := rest }) ∧
    (∀ w, s.pending = some w → s.wait ≠ 0 → step s = .next { s with wait := s.wait - 1 })

/-- R53: a host access of another width, a misaligned one and one outside the window are refused, whether or not a
command waits.  The names of the refusals are the model's (notes/assumptions/7.md). -/
def Obligations.UndefinedAccessesStop : Prop :=
  ∀ (s : State) (a n : Nat) (v : Word) (rest : List HostOp),
    (s.pending = none ∨ s.wait ≠ 0) →
    (s.hostQueue = .read a n :: rest ∨ s.hostQueue = .write a n v :: rest) →
    (n ≠ 4 → step s = .refused (.accessWidth n)) ∧
    (n = 4 → a % 4 ≠ 0 → step s = .refused (.misalignedAccess a)) ∧
    (n = 4 → a % 4 = 0 → 0x2000 ≤ a → step s = .refused (.outsideWindow a))

/-! ### The register window -/

/-- R51 and the rules it names: what a host read of each word returns while BUSY = 0.  A read has no side effect (R56). -/
def Obligations.IdleReadsReturnTheWord : Prop :=
  ∀ (s : State) (a : Nat) (rest : List HostOp),
    s.pending = none → s.hostQueue = .read a 4 :: rest → a % 4 = 0 → a < 0x2000 →
    ∃ v, step s = .next { s with hostQueue := rest, hostReads := v :: s.hostReads } ∧
      (a = 0x000 → v = 0x43325346) ∧ (a = 0x004 → v = s.statusWord) ∧
      (a = 0x010 → v = s.arg0) ∧ (a = 0x014 → v = s.arg1) ∧ (a = 0x018 → v = s.arg2) ∧
      (a = 0x020 → v = s.res0) ∧ (a = 0x024 → v = s.res1) ∧ (a = 0x028 → v = s.res2) ∧
      (a = 0x030 → v = BitVec.ofNat 32 s.mtCursor.val) ∧ (a = 0x034 → v = s.bfInfoWord) ∧
      (a = 0x040 → v = s.arcStatusWord) ∧ (a = 0x044 → v = s.arcCount) ∧ (a = 0x048 → v = s.arcIndex) ∧
      (a = 0x04C → v = s.arcRows) ∧ (a = 0x050 → v = s.arcKeyseed) ∧ (a = 0x054 → v = s.tocSeed) ∧
      (0x200 ≤ a ∧ a < 0x300 ∨ 0x300 ≤ a ∧ a < 0x348 →
        v = le32 [s.mem.read a, s.mem.read (a + 1), s.mem.read (a + 2), s.mem.read (a + 3)]) ∧
      (∀ k (h : k < 624), a = 0x1000 + 4 * k → v = s.mtState[k])

/-- R52: a read of a reserved word or of CMD returns 0 with no effect, and a write to a reserved or read-only word is
ignored, all without touching ERR or OVR; while BUSY = 1 a write to any of them sets OVR. -/
def Obligations.ReservedWordsReadZero : Prop :=
  ∀ (s : State) (a : Nat) (v : Word) (rest : List HostOp), a % 4 = 0 → a < 0x2000 →
    (a = 0x008 ∨ a = 0x00C ∨ a = 0x01C ∨ a = 0x02C ∨ 0x038 ≤ a ∧ a < 0x040 ∨ 0x058 ≤ a ∧ a < 0x200 ∨
        0x348 ≤ a ∧ a < 0x1000 ∨ 0x19C0 ≤ a →
      s.pending = none → s.hostQueue = .read a 4 :: rest →
      step s = .next { s with hostQueue := rest, hostReads := 0 :: s.hostReads }) ∧
    (a < 0x008 ∨ a = 0x00C ∨ 0x01C ≤ a ∧ a < 0x200 ∨ 0x348 ≤ a →
      s.hostQueue = .write a 4 v :: rest →
      (s.pending = none → step s = .next { s with hostQueue := rest }) ∧
      (∀ w, s.pending = some w → s.wait ≠ 0 →
        step s = .next { s with hostQueue := rest, wait := s.wait - 1, ovr := true }))

/-- R22: ARG0, ARG1 and ARG2 take every bit of a host write and read it back; no command but CORE_RESET writes them. -/
def Obligations.ArgRegistersStoreWrites : Prop :=
  ∀ (s : State) (v : Word) (rest : List HostOp), s.pending = none →
    (s.hostQueue = .write 0x010 4 v :: rest → step s = .next { s with hostQueue := rest, arg0 := v }) ∧
    (s.hostQueue = .write 0x014 4 v :: rest → step s = .next { s with hostQueue := rest, arg1 := v }) ∧
    (s.hostQueue = .write 0x018 4 v :: rest → step s = .next { s with hostQueue := rest, arg2 := v })

/-- R54: the word at 0x200 + 4k is DBUF[4k..4k+3], least significant byte first, and the word at 0x300 + 4k likewise for
EBUF: a host read returns those four bytes so, and a host write sets them and no others. -/
def Obligations.BufferWordsAreLittleEndian : Prop :=
  ∀ (s : State) (base k : Nat) (v : Word) (rest : List HostOp), s.pending = none →
    (base = 0x200 ∧ k < 64 ∨ base = 0x300 ∧ k < 18) →
    (s.hostQueue = .read (base + 4 * k) 4 :: rest →
      ∃ r : Word, step s = .next { s with hostQueue := rest, hostReads := r :: s.hostReads } ∧
        r.extractLsb' 0 8 = s.mem.read (base + 4 * k) ∧
        r.extractLsb' 8 8 = s.mem.read (base + 4 * k + 1) ∧
        r.extractLsb' 16 8 = s.mem.read (base + 4 * k + 2) ∧
        r.extractLsb' 24 8 = s.mem.read (base + 4 * k + 3)) ∧
    (s.hostQueue = .write (base + 4 * k) 4 v :: rest →
      ∃ t, step s = .next t ∧ t = { s with hostQueue := rest, mem := t.mem } ∧
        t.mem.read (base + 4 * k) = v.extractLsb' 0 8 ∧
        t.mem.read (base + 4 * k + 1) = v.extractLsb' 8 8 ∧
        t.mem.read (base + 4 * k + 2) = v.extractLsb' 16 8 ∧
        t.mem.read (base + 4 * k + 3) = v.extractLsb' 24 8 ∧
        unchangedOutside s.mem t.mem (base + 4 * k) 4)

/-- R25, R28, R30, R35: the fields of STATUS, MT_CURSOR, BF_INFO and ARC_STATUS stand where the tables say, and every
reserved bit reads 0.  R260, R32: the numbers that stand there for the eight error codes and the four archive states. -/
def Obligations.StatusRegisterFields : Prop :=
  (ErrCode.ok.code = 0 ∧ ErrCode.invalidArgument.code = 1 ∧ ErrCode.badSignature.code = 2 ∧
    ErrCode.missingTocSeed.code = 3 ∧ ErrCode.unsupportedKeyType.code = 4 ∧ ErrCode.truncatedEntry.code = 5 ∧
    ErrCode.illegalCommand.code = 6 ∧ ErrCode.stateError.code = 7) ∧
  (ArcState.idle.code = 0 ∧ ArcState.entries.code = 1 ∧ ArcState.done.code = 2 ∧ ArcState.fatal.code = 3) ∧
  ∀ s : State,
    (s.statusWord.getLsbD 0 = s.pending.isSome ∧ s.statusWord.getLsbD 1 = s.ovr ∧
      s.statusWord.extractLsb' 2 6 = 0 ∧ s.statusWord.extractLsb' 8 8 = s.err.code ∧
      s.statusWord.extractLsb' 16 8 = s.lastop ∧ s.statusWord.extractLsb' 24 8 = 0) ∧
    (s.cursorWord.toNat = s.mtCursor.val ∧ s.cursorWord.extractLsb' 10 22 = 0) ∧
    (s.bfInfoWord.getLsbD 0 = s.bfValid ∧ s.bfInfoWord.getLsbD 1 = s.bfOwnerArc ∧
      s.bfInfoWord.extractLsb' 2 6 = 0 ∧ s.bfInfoWord.extractLsb' 8 6 = s.bfKeylen ∧
      s.bfInfoWord.extractLsb' 14 18 = 0) ∧
    (s.arcStatusWord.extractLsb' 0 2 = s.arcState.code ∧ s.arcStatusWord.getLsbD 2 = s.arcEnc ∧
      s.arcStatusWord.getLsbD 3 = s.tocValid ∧ s.arcStatusWord.extractLsb' 4 4 = 0 ∧
      s.arcStatusWord.extractLsb' 8 8 = s.arcErr.code ∧ s.arcStatusWord.extractLsb' 16 16 = 0)

/-! ### Rules about every command -/

/-- R25: OVR, once set, is cleared only by a step that runs CORE_RESET or takes a hardware reset: one at the front of the
host's queue, in a step that executes no command. -/
def Obligations.OverrunIsSticky : Prop :=
  ∀ s t : State, step s = .next t → s.ovr = true → t.ovr = false → s.runs .coreReset ∨
    s.resetNext ∧ (s.pending = none ∨ s.wait ≠ 0)

/-- R22, R27, R29, R31, R33, R78: which commands may write each element; every command leaves every element that is not
its own. -/
def Obligations.OnlyTheseCommandsWrite : Prop :=
  ∀ (i : Instr) (s t : State), exec i s = .next t →
    ((t.arg0 ≠ s.arg0 ∨ t.arg1 ≠ s.arg1 ∨ t.arg2 ≠ s.arg2 ∨ t.ovr ≠ s.ovr) → i = .coreReset) ∧
    (t.mtState ≠ s.mtState → i = .mtSeed ∨ i = .mtTwist ∨ i = .mtNext) ∧
    (t.mtCursor ≠ s.mtCursor → i = .mtSeed ∨ i = .mtTwist ∨ i = .mtNext ∨ i = .coreReset) ∧
    (t.bf ≠ s.bf → i = .bfKey ∨ i = .arcEntry) ∧
    ((t.bfValid ≠ s.bfValid ∨ t.bfOwnerArc ≠ s.bfOwnerArc ∨ t.bfKeylen ≠ s.bfKeylen) →
      i = .bfKey ∨ i = .arcEntry ∨ i = .coreReset) ∧
    (t.tocSeed ≠ s.tocSeed → i = .arcTocSet ∨ i = .coreReset) ∧
    (t.tocValid ≠ s.tocValid → i = .arcTocSet ∨ i = .arcTocClr ∨ i = .coreReset) ∧
    (t.arcState ≠ s.arcState → i = .arcHeader ∨ i = .arcEntry ∨ i = .arcAbort ∨ i = .coreReset) ∧
    ((t.arcCount ≠ s.arcCount) → i = .arcHeader ∨ i = .coreReset) ∧
    ((t.arcIndex ≠ s.arcIndex ∨ t.arcRows ≠ s.arcRows ∨ t.arcEnc ≠ s.arcEnc ∨ t.arcKeyseed ≠ s.arcKeyseed ∨
        t.arcErr ≠ s.arcErr) → i = .arcHeader ∨ i = .arcEntry ∨ i = .coreReset) ∧
    ((∃ a, t.mem.read a ≠ s.mem.read a) → i = .bfEnc ∨ i = .bfDec ∨ i = .subst ∨ i = .arcEntry) ∧
    (t.params = s.params ∧ t.hostQueue = s.hostQueue ∧ t.hostReads = s.hostReads ∧
      t.latencies = s.latencies ∧ t.wait = s.wait ∧ t.freeIndex = s.freeIndex)

/-- R77: a command that raises an error writes no result register, and one that succeeds writes only those R75 lists for
it (CORE_RESET, R251, clears all three). -/
def Obligations.ResultRegistersOnlyOnSuccess : Prop :=
  ∀ (i : Instr) (s t : State), exec i s = .next t →
    (t.err ≠ .ok → t.res0 = s.res0 ∧ t.res1 = s.res1 ∧ t.res2 = s.res2) ∧
    (t.res0 ≠ s.res0 → i = .mtNext ∨ i = .mtTemper ∨ i = .mtUntemper ∨ i = .mtFirst ∨ i = .bfEncb ∨ i = .bfDecb ∨
      i = .seedDerive ∨ i = .subst ∨ i = .substKey ∨ i = .arcEntry ∨ i = .coreReset) ∧
    (t.res1 ≠ s.res1 → i = .bfEncb ∨ i = .bfDecb ∨ i = .arcEntry ∨ i = .coreReset) ∧
    (t.res2 ≠ s.res2 → i = .arcEntry ∨ i = .coreReset)

/-- R263: a command that raises InvalidArgument, UnsupportedKeyType, IllegalCommand or StateError changes no state except
STATUS.ERR and STATUS.LASTOP (and is no longer pending). -/
def Obligations.FailedCommandChangesNothing : Prop :=
  ∀ (s t : State) (w : Word), s.pending = some w → s.wait = 0 → step s = .next t →
    (t.err = .invalidArgument ∨ t.err = .unsupportedKeyType ∨ t.err = .illegalCommand ∨ t.err = .stateError) →
    t = { s with err := t.err, lastop := w.extractLsb' 0 8, pending := none }

/-- R264: an archive error writes ARC_STATE = Fatal and ARC_ERR = its code and, for ARC_HEADER, starts a new archive; it
changes nothing else but the status of its completion. -/
def Obligations.ArchiveErrorsAreFatal : Prop :=
  ∀ (i : Instr) (s t : State), exec i s = .next t →
    (t.err = .badSignature ∨ t.err = .missingTocSeed ∨ t.err = .truncatedEntry) →
    (i = .arcHeader ∧ t.err ≠ .missingTocSeed ∧
      t = { s with arcState := .fatal, arcErr := t.err, arcCount := 0, arcIndex := 0, arcRows := 0, arcEnc := false,
                   arcKeyseed := 0, err := t.err, lastop := 0x42, pending := none }) ∨
    (i = .arcEntry ∧ t.err ≠ .badSignature ∧
      t = { s with arcState := .fatal, arcErr := t.err, err := t.err, lastop := 0x43, pending := none })

/-- R266: the error of every command, with its causes in check order. -/
def Obligations.ErrorCausesInCheckOrder : Prop :=
  ∀ (i : Instr) (s t : State), exec i s = .next t →
    ((i = .nop ∨ i = .mtSeed ∨ i = .mtTwist ∨ i = .mtNext ∨ i = .mtTemper ∨ i = .mtUntemper ∨ i = .mtFirst ∨
        i = .substKey ∨ i = .arcAbort ∨ i = .coreReset) → t.err = .ok) ∧
    (i = .bfKey → t.err =
      if s.arg1.toNat < 1 ∨ 56 < s.arg1.toNat then .invalidArgument
      else if s.arcState = .entries ∧ s.arcEnc = true then .stateError else .ok) ∧
    ((i = .bfEncb ∨ i = .bfDecb) → t.err = if s.bfValid = false then .stateError else .ok) ∧
    ((i = .bfEnc ∨ i = .bfDec) → t.err =
      if 256 < s.arg1.toNat ∨ s.arg1.toNat % 8 ≠ 0 then .invalidArgument
      else if s.bfValid = false then .stateError else .ok) ∧
    (i = .seedDerive → t.err =
      if 3 < s.arg0.toNat then .unsupportedKeyType else if 256 < s.arg1.toNat then .invalidArgument else .ok) ∧
    (i = .subst → t.err =
      if 255 < s.arg0.toNat then .invalidArgument else if 256 < s.arg1.toNat then .invalidArgument else .ok) ∧
    ((i = .arcTocSet ∨ i = .arcTocClr) → t.err = if s.arcState = .entries then .stateError else .ok) ∧
    (i = .arcHeader → t.err =
      if 72 < s.arg1.toNat then .invalidArgument
      else if s.arg1.toNat < 4 ∨ s.ebuf 0 4 ≠ s.params.magic.toList then .badSignature
      else if s.arg1.toNat < 8 then .truncatedEntry else .ok) ∧
    (i = .arcEntry → t.err =
      if 72 < s.arg1.toNat then .invalidArgument
      else if s.arcState ≠ .entries then .stateError
      else if s.arg1.toNat < 72 then .truncatedEntry
      else if isKeyEntry s.params.keyMarker (s.ebuf 0 64) = false ∧ s.arcEnc = true ∧ s.tocValid = false then
        .missingTocSeed
      else .ok)

/-- R62, R214, R298: while one archive is in Entries its table-of-contents seed does not change, and its schedule changes
only by a key entry of its own: whatever the step, if the archive is still in Entries the seed is the same. -/
def Obligations.TocSeedIsFixedInAnArchive : Prop :=
  ∀ s t : State, step s = .next t → s.arcState = .entries → t.arcState = .entries →
    t.tocSeed = s.tocSeed ∧ t.tocValid = s.tocValid ∧
      (s.arcEnc = true → t.arcEnc = true → t.bf ≠ s.bf →
        s.runs .arcEntry ∧ isKeyEntry s.params.keyMarker (s.ebuf 0 64) = true)

/-! ### PRNG Engine -/

/-- R100, R101: the seeded words come from one LCG sequence, the even-indexed value in the upper half. -/
def Obligations.SeedWordsFollowTheSequence : Prop :=
  ∀ seed : Word, ∃ f : Nat → Word, f 0 = seed ∧ (∀ k, f (k + 1) = 69069 * f k + 1) ∧
    ∀ (i : Nat) (h : i < 624), (seedWords seed)[i] = (f (2 * i) &&& 0xFFFF0000) ||| (f (2 * i + 1) >>> 16)

/-- R102: the twist without its loop: word kk combines the upper bit of the old word kk with the lower 31 bits of its
successor and feeds back from 397 ahead, where the successor of word 623 is the new word 0 and, from kk = 227 on, the
word 397 ahead is the new word kk - 227. -/
def Obligations.TwistRecurrence : Prop :=
  ∀ (mt : Vector Word 624) (kk : Nat) (h : kk < 624),
    let successor : Word := if h' : kk + 1 < 624 then mt[kk + 1] else (twistWords mt)[0]
    let ahead : Word := if h' : kk < 227 then mt[kk + 397] else (twistWords mt)[kk - 227]'(by omega)
    let y : Word := (mt[kk] &&& 0x80000000) ||| (successor &&& 0x7FFFFFFF)
    (twistWords mt)[kk] = ahead ^^^ (y >>> 1) ^^^ (if y.getLsbD 0 then 0x9908B0DF else 0)

/-- R108, R109: MT_SEED; MT_TWIST, which seeds with 4357 first when the generator was never seeded. -/
def Obligations.MtSeedAndTwistResults : Prop :=
  encodeWord .mtSeed = 0x00000001 ∧ encodeWord .mtTwist = 0x00000002 ∧ ∀ s : State,
    exec .mtSeed s =
      .next { s with mtState := seedWords s.arg0, mtCursor := 624, err := .ok, lastop := 0x01, pending := none } ∧
    (s.mtCursor = 625 → exec .mtTwist s =
      .next { s with mtState := twistWords (seedWords 4357), mtCursor := 0, err := .ok, lastop := 0x02,
                     pending := none }) ∧
    (s.mtCursor ≠ 625 → exec .mtTwist s =
      .next { s with mtState := twistWords s.mtState, mtCursor := 0, err := .ok, lastop := 0x02, pending := none })

/-- R110: MT_NEXT reads the word at the cursor, after a twist when the cursor is 624 or 625. -/
def Obligations.MtNextResult : Prop :=
  encodeWord .mtNext = 0x00000003 ∧ ∀ s : State,
    (∀ h : s.mtCursor.val < 624, ∃ t, exec .mtNext s = .next t ∧ t.mtCursor.val = s.mtCursor.val + 1 ∧
      t = { s with mtCursor := t.mtCursor, res0 := temper (s.mtState[s.mtCursor.val]'h), err := .ok, lastop := 0x03,
                   pending := none }) ∧
    (s.mtCursor.val = 624 → exec .mtNext s =
      .next { s with mtState := twistWords s.mtState, mtCursor := 1, res0 := temper (twistWords s.mtState)[0],
                     err := .ok, lastop := 0x03, pending := none }) ∧
    (s.mtCursor.val = 625 → exec .mtNext s =
      .next { s with mtState := twistWords (seedWords 4357), mtCursor := 1,
                     res0 := temper (twistWords (seedWords 4357))[0], err := .ok, lastop := 0x03, pending := none })

/-- R111, R112, R113: MT_TEMPER, MT_UNTEMPER and MT_FIRST write RES0 and nothing else. -/
def Obligations.TemperUntemperFirstResults : Prop :=
  encodeWord .mtTemper = 0x00000004 ∧ encodeWord .mtUntemper = 0x00000005 ∧ encodeWord .mtFirst = 0x00000006 ∧
  ∀ s : State,
    exec .mtTemper s = .next { s with res0 := temper s.arg0, err := .ok, lastop := 0x04, pending := none } ∧
    exec .mtUntemper s = .next { s with res0 := untemper s.arg0, err := .ok, lastop := 0x05, pending := none } ∧
    exec .mtFirst s = .next { s with res0 := firstOutput s.arg0, err := .ok, lastop := 0x06, pending := none }

/-- R107: tempering and untempering are inverse to each other, on every word. -/
def Obligations.UntemperInvertsTemper : Prop :=
  ∀ y : Word, untemper (temper y) = y ∧ temper (untemper y) = y

/-- R106: the shortcut agrees with the generator, as a function and as commands: MT_FIRST returns what MT_SEED and then
MT_NEXT return. -/
def Obligations.FirstOutputAgreesWithGenerator : Prop :=
  (∀ seed, firstOutput seed = temper (twistWords (seedWords seed))[0]) ∧
    ∀ s a b c : State, exec .mtFirst s = .next a → exec .mtSeed s = .next b → exec .mtNext b = .next c →
      a.res0 = c.res0

/-- R113, R196, R298: MT_FIRST, SUBST_KEY and ARC_ENTRY neither read nor write the generator: with other words and
another cursor they do the same to everything else. -/
def Obligations.GeneratorIsNotTouched : Prop :=
  ∀ (i : Instr) (s t : State) (mt : Vector Word 624) (c : Fin 626),
    (i = .mtFirst ∨ i = .substKey ∨ i = .arcEntry) → exec i s = .next t →
    exec i { s with mtState := mt, mtCursor := c } = .next { t with mtState := mt, mtCursor := c }

/-! ### Block Cipher -/

/-- R136: decryption inverts encryption and the reverse, for every schedule, on halves and on 8-byte blocks. -/
def Obligations.CipherRoundTrip : Prop :=
  ∀ k : Schedule,
    (∀ lr, decryptHalves k (encryptHalves k lr) = lr ∧ encryptHalves k (decryptHalves k lr) = lr) ∧
    (∀ b : List Byte, b.length = 8 →
      decryptBlock k (encryptBlock k b) = b ∧ encryptBlock k (decryptBlock k b) = b)

/-- R142: two keys give the same schedule exactly when their cyclic 72-byte key streams are equal. -/
def Obligations.SameScheduleIffSameKeyStream : Prop :=
  ∀ a b : List Byte, 1 ≤ a.length → a.length ≤ 56 → 1 ≤ b.length → b.length ≤ 56 →
    (keySchedule a = keySchedule b ↔
      ∀ m, m < 72 → a.getD (m % a.length) 0 = b.getD (m % b.length) 0)

/-- R137: BF_KEY builds the schedule of DBUF[0:ARG1] when ARG1 is 1 to 56 and no encrypted archive is in Entries; it
raises InvalidArgument for another length and then StateError inside an encrypted archive, changing nothing. -/
def Obligations.BfKeyResult : Prop :=
  encodeWord .bfKey = 0x00000010 ∧ ∀ s : State,
    (1 ≤ s.arg1.toNat → s.arg1.toNat ≤ 56 → ¬ (s.arcState = .entries ∧ s.arcEnc = true) →
      ∃ t, exec .bfKey s = .next t ∧ t.bfKeylen.toNat = s.arg1.toNat ∧
        t = { s with bf := keySchedule (s.dbuf 0 s.arg1.toNat), bfValid := true, bfOwnerArc := false,
                     bfKeylen := t.bfKeylen, err := .ok, lastop := 0x10, pending := none }) ∧
    ((s.arg1.toNat < 1 ∨ 56 < s.arg1.toNat) →
      exec .bfKey s = .next { s with err := .invalidArgument, lastop := 0x10, pending := none }) ∧
    (1 ≤ s.arg1.toNat → s.arg1.toNat ≤ 56 → s.arcState = .entries → s.arcEnc = true →
      exec .bfKey s = .next { s with err := .stateError, lastop := 0x10, pending := none })

/-- R138, R139: BF_ENCB and BF_DECB on the two halves, with a schedule; StateError without one. -/
def Obligations.BfHalvesResults : Prop :=
  encodeWord .bfEncb = 0x00000011 ∧ encodeWord .bfDecb = 0x00000012 ∧ ∀ s : State,
    (s.bfValid = true →
      exec .bfEncb s = .next { s with res0 := (encryptHalves s.bf (s.arg0, s.arg1)).1,
                                      res1 := (encryptHalves s.bf (s.arg0, s.arg1)).2,
                                      err := .ok, lastop := 0x11, pending := none } ∧
      exec .bfDecb s = .next { s with res0 := (decryptHalves s.bf (s.arg0, s.arg1)).1,
                                      res1 := (decryptHalves s.bf (s.arg0, s.arg1)).2,
                                      err := .ok, lastop := 0x12, pending := none }) ∧
    (s.bfValid = false →
      exec .bfEncb s = .next { s with err := .stateError, lastop := 0x11, pending := none } ∧
      exec .bfDecb s = .next { s with err := .stateError, lastop := 0x12, pending := none })

/-- R140, R141: BF_ENC and BF_DEC transform each 8-byte block of DBUF[0:ARG1] by itself and leave every other byte alone;
the errors are InvalidArgument for a length that is not a multiple of 8 or exceeds 256, and then StateError without a
schedule. -/
def Obligations.BfDataResults : Prop :=
  encodeWord .bfEnc = 0x00000013 ∧ encodeWord .bfDec = 0x00000014 ∧ ∀ s : State,
    (s.arg1.toNat ≤ 256 → s.arg1.toNat % 8 = 0 → s.bfValid = true →
      (∃ t, exec .bfEnc s = .next t ∧
        t = { s with mem := t.mem, err := .ok, lastop := 0x13, pending := none } ∧
        (∀ k, 8 * k < s.arg1.toNat → t.dbuf (8 * k) 8 = encryptBlock s.bf (s.dbuf (8 * k) 8)) ∧
        unchangedOutside s.mem t.mem 0x200 s.arg1.toNat) ∧
      ∃ t, exec .bfDec s = .next t ∧
        t = { s with mem := t.mem, err := .ok, lastop := 0x14, pending := none } ∧
        (∀ k, 8 * k < s.arg1.toNat → t.dbuf (8 * k) 8 = decryptBlock s.bf (s.dbuf (8 * k) 8)) ∧
        unchangedOutside s.mem t.mem 0x200 s.arg1.toNat) ∧
    ((256 < s.arg1.toNat ∨ s.arg1.toNat % 8 ≠ 0) →
      exec .bfEnc s = .next { s with err := .invalidArgument, lastop := 0x13, pending := none } ∧
      exec .bfDec s = .next { s with err := .invalidArgument, lastop := 0x14, pending := none }) ∧
    (s.arg1.toNat ≤ 256 → s.arg1.toNat % 8 = 0 → s.bfValid = false →
      exec .bfEnc s = .next { s with err := .stateError, lastop := 0x13, pending := none } ∧
      exec .bfDec s = .next { s with err := .stateError, lastop := 0x14, pending := none })

/-- R136, R140, R141: BF_DEC after BF_ENC gives back the whole byte storage, as data. -/
def Obligations.DecAfterEncRestoresMemory : Prop :=
  ∀ s t u : State, s.mem.wf = true → exec .bfEnc s = .next t → t.err = .ok → exec .bfDec t = .next u →
    u.err = .ok ∧ u.mem = s.mem

/-! ### Seed Derivation -/

/-- R172, R174: the seed of each supported key type, and the two errors. -/
def Obligations.SeedDeriveResult : Prop :=
  encodeWord .seedDerive = 0x00000020 ∧ ∀ s : State,
    (s.arg1.toNat ≤ 256 →
      (s.arg0 = 0 → exec .seedDerive s =
        .next { s with res0 := versionCodeToSeed (s.dbuf 0 s.arg1.toNat), err := .ok, lastop := 0x20,
                       pending := none }) ∧
      (s.arg0 = 1 → exec .seedDerive s =
        .next { s with res0 := versionCodeToSeed (s.dbuf 0 s.arg1.toNat) + s.arg2, err := .ok, lastop := 0x20,
                       pending := none }) ∧
      (s.arg0 = 2 → exec .seedDerive s =
        .next { s with res0 := versionCodeToSeed (logical (s.dbuf 0 s.arg1.toNat) ++ s.params.commonSalt),
                       err := .ok, lastop := 0x20, pending := none }) ∧
      (s.arg0 = 3 → exec .seedDerive s =
        .next { s with res0 := versionCodeToSeed (logical (s.dbuf 0 s.arg1.toNat) ++ s.params.debugSalt),
                       err := .ok, lastop := 0x20, pending := none })) ∧
    (3 < s.arg0.toNat →
      exec .seedDerive s = .next { s with err := .unsupportedKeyType, lastop := 0x20, pending := none }) ∧
    (s.arg0.toNat ≤ 3 → 256 < s.arg1.toNat →
      exec .seedDerive s = .next { s with err := .invalidArgument, lastop := 0x20, pending := none })

/-- R171, R173: a code ends at its first zero byte, and a salt continues the checksum of the logical content byte by
byte. -/
def Obligations.SaltContinuesTheChecksum : Prop :=
  (∀ code rest : List Byte, versionCodeToSeed (code ++ 0 :: rest) = versionCodeToSeed code) ∧
    ∀ code salt : List Byte, (∀ b ∈ salt, b ≠ 0) →
      versionCodeToSeed (logical code ++ salt) = salt.foldl crcStep (versionCodeToSeed code)

/-- R175: the derived corner values of the checksum. -/
def Obligations.ChecksumCornerValues : Prop :=
  versionCodeToSeed [] = 0xFFFFFFFF ∧ versionCodeToSeed [0x41] = 0x81B02D8B ∧
    versionCodeToSeed [0xFF] = 0x000000FF ∧
    versionCodeToSeed [0x77, 0x69, 0x6E, 0x64, 0x00, 0x6D, 0x69, 0x6C, 0x6C] =
      versionCodeToSeed [0x77, 0x69, 0x6E, 0x64] ∧
    versionCodeToSeed [0x77, 0x69, 0x6E, 0x64, 0x6D, 0x69, 0x6C, 0x6C] = 0xF7C368CC

/-! ### Rotating Substitution Cipher -/

/-- R193: the transform is its own inverse under every key; it keeps the length, keeps every zero byte and makes none, and
maps letters to letters and every other byte to itself. -/
def Obligations.TransformIsSelfReciprocal : Prop :=
  ∀ (buf : List Byte) (k : Byte),
    (transform (transform buf k).1 k).1 = buf ∧ (transform buf k).1.length = buf.length ∧
      ∀ (p : Nat) (h : p < buf.length) (h' : p < (transform buf k).1.length),
        ((transform buf k).1[p] = 0 ↔ buf[p] = 0) ∧
        (letterIndex (transform buf k).1[p] = none ↔ letterIndex buf[p] = none) ∧
        (letterIndex buf[p] = none → (transform buf k).1[p] = buf[p])

/-- R192: position by position: a letter before the first zero byte moves by the key plus its position, mod 52, and is
mirrored; another byte there, the zero byte and every byte after it stay; the count is the number of bytes before the
first zero byte. -/
def Obligations.TransformByPosition : Prop :=
  ∀ (buf : List Byte) (k : Byte),
    (transform buf k).2 = (logical buf).length ∧ (transform buf k).1.length = buf.length ∧
      ∀ (p : Nat) (h : p < buf.length) (h' : p < (transform buf k).1.length),
        (p < (logical buf).length →
          (∀ i, letterIndex buf[p] = some i → (transform buf k).1[p] = mirror ((i + k.toNat + p) % 52)) ∧
          (letterIndex buf[p] = none → (transform buf k).1[p] = buf[p])) ∧
        ((logical buf).length ≤ p → (transform buf k).1[p] = buf[p])

/-- R195: SUBST transforms DBUF[0:ARG1] in place, reports the number of bytes processed in RES0, and leaves every other
byte alone; a key above 255 or a length above 256 raises InvalidArgument. -/
def Obligations.SubstResult : Prop :=
  encodeWord .subst = 0x00000030 ∧ ∀ s : State,
    (s.arg0.toNat ≤ 255 → s.arg1.toNat ≤ 256 →
      ∃ t, exec .subst s = .next t ∧
        t.dbuf 0 s.arg1.toNat = (transform (s.dbuf 0 s.arg1.toNat) (s.arg0.extractLsb' 0 8)).1 ∧
        t.res0.toNat = (transform (s.dbuf 0 s.arg1.toNat) (s.arg0.extractLsb' 0 8)).2 ∧
        t = { s with mem := t.mem, res0 := t.res0, err := .ok, lastop := 0x30, pending := none } ∧
        unchangedOutside s.mem t.mem 0x200 s.arg1.toNat) ∧
    ((255 < s.arg0.toNat ∨ 256 < s.arg1.toNat) →
      exec .subst s = .next { s with err := .invalidArgument, lastop := 0x30, pending := none })

/-- R194, R196: SUBST_KEY writes the per-entry key, at most 255, into RES0 and nothing else; the key is the sum of the four
bytes of the first output mod 256, which is also the sum of the shifted values mod 256, and the sum of seed and index
wraps. -/
def Obligations.SubstKeyIsByteSum : Prop :=
  encodeWord .substKey = 0x00000031 ∧
  (∀ s : State, ∃ t, exec .substKey s = .next t ∧ t.res0.toNat = (perEntryKey s.arg0 s.arg1).toNat ∧
      t.res0.toNat ≤ 255 ∧ t = { s with res0 := t.res0, err := .ok, lastop := 0x31, pending := none }) ∧
  (∀ toc index : Word,
    let v := firstOutput (toc + index)
    (perEntryKey toc index).toNat =
        (v.toNat / 2 ^ 24 + v.toNat / 2 ^ 16 % 256 + v.toNat / 2 ^ 8 % 256 + v.toNat % 256) % 256 ∧
      (perEntryKey toc index).toNat = ((v >>> 24) + (v >>> 16) + (v >>> 8) + v).toNat % 256) ∧
  perEntryKey 0xFFFFFFFF 1 = perEntryKey 0 0

/-! ### Archive Decryptor -/

/-- R12, R212, R222: the trimmed length is `p + 1` for the largest p with a non-zero byte, or 0 when there is none; a record is
a key entry exactly when its name, less its trailing zero bytes, is the marker, which has no zero byte (R12). -/
def Obligations.TrimmedNameDecidesKeyEntry : Prop :=
  (∀ name : List Byte,
    ((∀ b ∈ name, b = 0) → trimLen name = 0) ∧
    (∀ (p : Nat) (h : p < name.length), name[p] ≠ 0 →
      (∀ (q : Nat) (h' : q < name.length), p < q → name[q] = 0) → trimLen name = p + 1)) ∧
  ∀ (p : Params) (name : List Byte), p.wf = true → name.length = 64 →
    (isKeyEntry p.keyMarker name = true ↔ name.take (trimLen name) = p.keyMarker.toList)

/-- R221: the index is added to the metadata as a little-endian 64-bit integer, mod 2^64, and the sum is decrypted;
that integer has byte k of the metadata at weight 2^(8k). -/
def Obligations.MetadataAddWrapsAt64Bits : Prop :=
  ∀ (k : Schedule) (m : List Byte) (i : Word), m.length = 8 →
    ∃ b : List Byte, b.length = 8 ∧ metaDecrypt k m i = decryptBlock k b ∧
      (le64 b).toNat = ((le64 m).toNat + i.toNat) % 2 ^ 64 ∧ bytesLe64 (le64 m) = m ∧
      (le64 m).toNat = ((List.range 8).map fun k => (m.getD k 0).toNat * 2 ^ (8 * k)).sum

/-- R214, R215: ARC_TOC_SET and ARC_TOC_CLR outside an archive, and their StateError inside one. -/
def Obligations.TocSeedCommands : Prop :=
  encodeWord .arcTocSet = 0x00000040 ∧ encodeWord .arcTocClr = 0x00000041 ∧ ∀ s : State,
    (s.arcState ≠ .entries →
      exec .arcTocSet s = .next { s with tocSeed := s.arg0, tocValid := true, err := .ok, lastop := 0x40,
                                         pending := none } ∧
      exec .arcTocClr s = .next { s with tocValid := false, err := .ok, lastop := 0x41, pending := none }) ∧
    (s.arcState = .entries →
      exec .arcTocSet s = .next { s with err := .stateError, lastop := 0x40, pending := none } ∧
      exec .arcTocClr s = .next { s with err := .stateError, lastop := 0x41, pending := none })

/-- R211: the archive sequencer's transitions, for the archive commands with ARG1 in its range. -/
def Obligations.ArchiveSequencerTransitions : Prop :=
  ∀ s t : State,
    (exec .arcHeader s = .next t → s.arg1.toNat ≤ 72 →
      (t.arcState = .entries ∨ t.arcState = .done ∨ t.arcState = .fatal) ∧
        t.arcIndex = 0 ∧ t.arcRows = 0 ∧ t.arcEnc = false ∧ t.arcKeyseed = 0) ∧
    (exec .arcEntry s = .next t → s.arg1.toNat ≤ 72 →
      (s.arcState ≠ .entries → t = { s with err := .stateError, lastop := 0x43, pending := none }) ∧
      (s.arcState = .entries →
        (t.err = .ok ∧ t.arcIndex = s.arcIndex + 1 ∧
          (t.arcState = .done ∧ t.arcIndex = s.arcCount ∨ t.arcState = .entries ∧ t.arcIndex ≠ s.arcCount)) ∨
        (t.err ≠ .ok ∧ t.arcState = .fatal ∧ t.arcErr = t.err))) ∧
    (exec .arcAbort s = .next t → t.arcState = .idle) ∧
    (exec .arcTocSet s = .next t ∨ exec .arcTocClr s = .next t →
      t.arcState = s.arcState ∧ (t.err = .stateError ↔ s.arcState = .entries))

/-- R216: ARC_HEADER: the new archive, and its three errors. -/
def Obligations.ArcHeaderResult : Prop :=
  encodeWord .arcHeader = 0x00000042 ∧ ∀ s : State,
    (72 < s.arg1.toNat →
      exec .arcHeader s = .next { s with err := .invalidArgument, lastop := 0x42, pending := none }) ∧
    (s.arg1.toNat ≤ 72 → (s.arg1.toNat < 4 ∨ s.ebuf 0 4 ≠ s.params.magic.toList) →
      exec .arcHeader s =
        .next { s with arcCount := 0, arcIndex := 0, arcRows := 0, arcEnc := false, arcKeyseed := 0,
                       arcState := .fatal, arcErr := .badSignature, err := .badSignature, lastop := 0x42,
                       pending := none }) ∧
    (4 ≤ s.arg1.toNat → s.arg1.toNat < 8 → s.ebuf 0 4 = s.params.magic.toList →
      exec .arcHeader s =
        .next { s with arcCount := 0, arcIndex := 0, arcRows := 0, arcEnc := false, arcKeyseed := 0,
                       arcState := .fatal, arcErr := .truncatedEntry, err := .truncatedEntry, lastop := 0x42,
                       pending := none }) ∧
    (8 ≤ s.arg1.toNat → s.arg1.toNat ≤ 72 → s.ebuf 0 4 = s.params.magic.toList →
      exec .arcHeader s =
        .next { s with arcCount := le32 (s.ebuf 4 4), arcIndex := 0, arcRows := 0, arcEnc := false,
                       arcKeyseed := 0, arcErr := .ok,
                       arcState := if 0 < (le32 (s.ebuf 4 4)).toNat then .entries else .done,
                       err := .ok, lastop := 0x42, pending := none })

/-- R217, R218: ARC_ENTRY on a key entry: a fresh schedule from its own seed, no output row, EBUF untouched, the index
moved, and Done after the last record. -/
def Obligations.KeyEntryBuildsSchedule : Prop :=
  encodeWord .arcEntry = 0x00000043 ∧ ∀ s : State,
    s.arg1 = 72 → s.arcState = .entries → isKeyEntry s.params.keyMarker (s.ebuf 0 64) = true →
    exec .arcEntry s =
      .next { s with bf := keySchedule (archiveKey (le32 (s.ebuf 68 4))), bfValid := true, bfOwnerArc := true,
                     bfKeylen := 4, arcEnc := true, arcKeyseed := le32 (s.ebuf 68 4),
                     res0 := 0, res1 := 11, res2 := s.arcIndex, arcIndex := s.arcIndex + 1,
                     arcState := if s.arcIndex + 1 = s.arcCount then .done else .entries,
                     err := .ok, lastop := 0x43, pending := none }

/-- R217, R219: ARC_ENTRY on a data entry of an encrypted archive decrypts the record in place in EBUF and emits a row;
without a table-of-contents seed the archive is Fatal. -/
def Obligations.EncryptedEntryIsDecrypted : Prop :=
  ∀ s : State, s.arg1 = 72 → s.arcState = .entries → isKeyEntry s.params.keyMarker (s.ebuf 0 64) = false →
    s.arcEnc = true →
    (s.tocValid = true → ∃ t, exec .arcEntry s = .next t ∧
      t.ebuf 0 64 = (transform (s.ebuf 0 64) (perEntryKey s.tocSeed s.arcIndex)).1 ∧
      t.ebuf 64 8 = metaDecrypt s.bf (s.ebuf 64 8) s.arcIndex ∧
      unchangedOutside s.mem t.mem 0x300 72 ∧
      t.res1.toNat = trimLen (t.ebuf 0 64) ∧
      t = { s with mem := t.mem, arcRows := s.arcRows + 1, res0 := 1, res1 := t.res1, res2 := s.arcIndex,
                   arcIndex := s.arcIndex + 1,
                   arcState := if s.arcIndex + 1 = s.arcCount then .done else .entries,
                   err := .ok, lastop := 0x43, pending := none }) ∧
    (s.tocValid = false →
      exec .arcEntry s = .next { s with arcState := .fatal, arcErr := .missingTocSeed, err := .missingTocSeed,
                                        lastop := 0x43, pending := none })

/-- R217, R220: ARC_ENTRY on a record of an unencrypted archive passes it through and emits a row. -/
def Obligations.PlainEntryPassesThrough : Prop :=
  ∀ s : State, s.arg1 = 72 → s.arcState = .entries → isKeyEntry s.params.keyMarker (s.ebuf 0 64) = false →
    s.arcEnc = false →
    ∃ t, exec .arcEntry s = .next t ∧ t.res1.toNat = trimLen (s.ebuf 0 64) ∧
      t = { s with arcRows := s.arcRows + 1, res0 := 1, res1 := t.res1, res2 := s.arcIndex,
                   arcIndex := s.arcIndex + 1,
                   arcState := if s.arcIndex + 1 = s.arcCount then .done else .entries,
                   err := .ok, lastop := 0x43, pending := none }

/-- R224, R250: ARC_ABORT leaves the archive, in every state, and NOP changes nothing; both complete. -/
def Obligations.AbortAndNopResults : Prop :=
  encodeWord .arcAbort = 0x00000044 ∧ encodeWord .nop = 0x00000000 ∧ ∀ s : State,
    exec .arcAbort s = .next { s with arcState := .idle, err := .ok, lastop := 0x44, pending := none } ∧
    exec .nop s = .next { s with err := .ok, lastop := 0x00, pending := none }

/-- R223: an archive of ARC_COUNT records of 72 bytes, decoded one by one from its first record, ends Done (unless an
encrypted entry finds no table-of-contents seed), and then ARC_ROWS is ARC_COUNT less the number of key entries.  It
speaks of ARC_ENTRY commands one after another, on at least one record; a count of 0 is `ArcHeaderResult`'s. -/
def Obligations.RowsAreCountLessKeyEntries : Prop :=
  ∀ (s : State) (records : List (List Byte)), s.arcState = .entries → s.arcIndex = 0 → s.arcRows = 0 →
    records ≠ [] → records.length = s.arcCount.toNat → (∀ r ∈ records, r.length = 72) →
    ∃ t, decodeRecords records s = .next t ∧ (s.tocValid = true → t.arcState = .done) ∧
      (t.arcState = .done → t.arcRows.toNat = t.arcCount.toNat - keyEntries s.params.keyMarker records ∧
        t.arcCount = s.arcCount)

/-! ### Control and reset -/

/-- R251: CORE_RESET. -/
def Obligations.CoreResetResult : Prop :=
  encodeWord .coreReset = 0x000000FF ∧ ∀ s : State, exec .coreReset s =
    .next { s with arg0 := 0, arg1 := 0, arg2 := 0, res0 := 0, res1 := 0, res2 := 0, mtCursor := 625,
                   bfValid := false, bfOwnerArc := false, bfKeylen := 0, tocSeed := 0, tocValid := false,
                   arcState := .idle, arcCount := 0, arcIndex := 0, arcRows := 0, arcKeyseed := 0, arcEnc := false,
                   arcErr := .ok, ovr := false, err := .ok, lastop := 0xFF, pending := none }

/-- R40, R290: a hardware reset, whether or not a command is waiting, gives every element for which R40 states a value
that value and abandons the command, and so does `State.reset`. -/
def Obligations.HardwareResetValues : Prop :=
  ∀ s t : State,
    (t = State.reset ∨ (s.pending = none ∨ s.wait ≠ 0) ∧ s.resetNext ∧ step s = .next t) →
    t.pending = none ∧ t.statusWord = 0 ∧ t.windowRead 0x000 = 0x43325346 ∧
      t.arg0 = 0 ∧ t.arg1 = 0 ∧ t.arg2 = 0 ∧ t.res0 = 0 ∧ t.res1 = 0 ∧ t.res2 = 0 ∧ t.mtCursor.val = 625 ∧
      t.bfInfoWord = 0 ∧ t.tocSeed = 0 ∧ t.tocValid = false ∧ t.arcState = .idle ∧ t.arcCount = 0 ∧
      t.arcIndex = 0 ∧ t.arcRows = 0 ∧ t.arcKeyseed = 0 ∧ t.arcEnc = false ∧ t.arcErr = .ok

/-- R291: what the first commands do in every state whose cursor, schedule flag and archive state are those of reset: the
first output is 0xAAE64AC3, the cipher commands and ARC_ENTRY raise StateError. -/
def Obligations.FirstCommandsAfterReset : Prop :=
  ∀ s : State, s.mtCursor = 625 → s.bfValid = false → s.arcState = .idle →
    (∃ t, exec .mtNext s = .next t ∧ t.res0 = 0xAAE64AC3 ∧ t.mtCursor.val = 1) ∧
    (∃ t, exec .bfEncb s = .next t ∧ t.err = .stateError) ∧ (∃ t, exec .bfDecb s = .next t ∧ t.err = .stateError) ∧
    (s.arg1.toNat ≤ 256 → s.arg1.toNat % 8 = 0 →
      (∃ t, exec .bfEnc s = .next t ∧ t.err = .stateError) ∧ (∃ t, exec .bfDec s = .next t ∧ t.err = .stateError)) ∧
    (s.arg1.toNat ≤ 72 → ∃ t, exec .arcEntry s = .next t ∧ t.err = .stateError)

/-- R29, R40, R109, R110, 93_implementation_defined.md U1: no command reads the generator's words while the cursor is
625, or the schedule while BF_VALID = 0: with other contents there, it does the same to everything else.  The premise
rules out states in which an encrypted archive is in Entries without a valid schedule; `StepKeepsInvariant` says that no
run reaches one. -/
def Obligations.GuardedContentsNeverMatter : Prop :=
  ∀ (i : Instr) (s t : State), exec i s = .next t →
    (∀ mt, s.mtCursor = 625 →
      ∃ mt', exec i { s with mtState := mt } = .next { t with mtState := mt' } ∧
        (mt' = t.mtState ∨ mt' = mt ∧ t.mtState = s.mtState)) ∧
    (∀ bf, s.bfValid = false → s.archiveKeyInv →
      ∃ bf', exec i { s with bf := bf } = .next { t with bf := bf' } ∧
        (bf' = t.bf ∨ bf' = bf ∧ t.bf = s.bf))

/-! ### The invariant -/

/-- Every step keeps the invariant: the generator's words come from its seed (R39), the schedule is that of a key of
BF_KEYLEN bytes (R29, R30), the archive counters are in order (R33, R34), an encrypted archive keeps its own schedule
(R298), and the byte storage lies inside DBUF and EBUF (R50).  That the storage is also in canonical form
is no rule of the spec: the form is the model's choice (notes/assumptions/13.md). -/
def Obligations.StepKeepsInvariant : Prop :=
  ∀ s t : State, s.Inv → step s = .next t → t.Inv

/-- The invariant holds at reset.  Its clause about the byte storage is no consequence of R40, which leaves DBUF and EBUF
unspecified: it rests on the model's canonical list (notes/assumptions/13.md), empty at reset (notes/assumptions/1.md). -/
def Obligations.InvariantHoldsAtReset : Prop := State.reset.Inv
end

