-- ==== Sys2Proof/Laws/Bytes.lean ====
section
/-! SUPPORT. Byte conversion (R17): each direction undoes the other, and the value is the sum of the weighted bytes. -/

namespace Sys2Proof.Machine

@[simp] theorem bytesLe32_length (v : Word) : (bytesLe32 v).length = 4 := rfl

@[simp] theorem bytesLe64_length (v : DWord) : (bytesLe64 v).length = 8 := rfl

/-- The word of a word's bytes. -/
@[simp] theorem le32_bytesLe32 (v : Word) : le32 (bytesLe32 v) = v := by
  apply BitVec.eq_of_getLsbD_eq
  intro i hi
  simp only [le32, bytesLe32, byteAt, List.getD_cons_zero, List.getD_cons_succ, BitVec.getLsbD_or,
    BitVec.getLsbD_shiftLeft, BitVec.getLsbD_setWidth, BitVec.getLsbD_extractLsb']
  interval_cases i <;> simp

/-- The bytes of four bytes' word. -/
theorem bytesLe32_le32 (a b c d : Byte) : bytesLe32 (le32 [a, b, c, d]) = [a, b, c, d] := by
  simp only [bytesLe32, List.cons.injEq, and_true]
  refine ⟨?_, ?_, ?_, ?_⟩ <;>
  · apply BitVec.eq_of_getLsbD_eq
    intro i hi
    simp only [le32, byteAt, List.getD_cons_zero, List.getD_cons_succ, BitVec.getLsbD_or,
      BitVec.getLsbD_shiftLeft, BitVec.getLsbD_setWidth, BitVec.getLsbD_extractLsb']
    interval_cases i <;> simp

/-- The bytes of the word of a 4-byte string. -/
theorem bytesLe32_le32_of_length {s : List Byte} (h : s.length = 4) : bytesLe32 (le32 s) = s := by
  match s, h with
  | [a, b, c, d], _ => exact bytesLe32_le32 a b c d

/-- R134: the two 4-byte halves of a block are read back. -/
@[simp] theorem take_bytesLe32_append (v : Word) (s : List Byte) : (bytesLe32 v ++ s).take 4 = bytesLe32 v :=
  List.take_left' rfl

@[simp] theorem drop_bytesLe32_append (v : Word) (s : List Byte) : (bytesLe32 v ++ s).drop 4 = s :=
  List.drop_left' rfl

/-- The 64-bit value of its bytes. -/
@[simp] theorem le64_bytesLe64 (v : DWord) : le64 (bytesLe64 v) = v := by
  have h1 : (bytesLe64 v).take 4 = bytesLe32 (v.extractLsb' 0 32) := by simp [bytesLe64]
  have h2 : (bytesLe64 v).drop 4 = bytesLe32 (v.extractLsb' 32 32) := by simp [bytesLe64]
  rw [le64, h1, h2, le32_bytesLe32, le32_bytesLe32]
  apply BitVec.eq_of_getLsbD_eq
  intro i hi
  simp only [BitVec.getLsbD_or, BitVec.getLsbD_shiftLeft, BitVec.getLsbD_setWidth, BitVec.getLsbD_extractLsb']
  rcases Nat.lt_or_ge i 32 with h | h
  · simp [h, hi]
  · simp [Nat.not_lt.2 h, hi, show i - 32 < 32 by omega, show i - 32 < 64 by omega, show 32 + (i - 32) = i by omega]

/-- The bytes of an 8-byte string's 64-bit value. -/
theorem bytesLe64_le64_of_length {s : List Byte} (h : s.length = 8) : bytesLe64 (le64 s) = s := by
  have h1 : (le64 s).extractLsb' 0 32 = le32 (s.take 4) := by
    apply BitVec.eq_of_getLsbD_eq
    intro i hi
    simp [le64, hi, show i < 64 by omega]
  have h2 : (le64 s).extractLsb' 32 32 = le32 (s.drop 4) := by
    apply BitVec.eq_of_getLsbD_eq
    intro i hi
    simp [le64, hi, show 32 + i < 64 by omega]
  rw [bytesLe64, h1, h2, bytesLe32_le32_of_length (by simp [h]), bytesLe32_le32_of_length (by simp [h]),
    List.take_append_drop]

/-! ### Values as sums of weighted bytes -/

/-- An appended value is a sum. -/
theorem toNat_append_add {m n : Nat} (x : BitVec m) (y : BitVec n) : (x ++ y).toNat = x.toNat * 2 ^ n + y.toNat := by
  rw [BitVec.toNat_append, ← Nat.shiftLeft_add_eq_or_of_lt y.isLt, Nat.shiftLeft_eq]

/-- R17: the word of four bytes, its last byte on top. -/
theorem le32_eq_append (a b c d : Byte) : le32 [a, b, c, d] = d ++ c ++ b ++ a := by
  apply BitVec.eq_of_getLsbD_eq
  intro i hi
  simp only [le32, byteAt, List.getD_cons_zero, List.getD_cons_succ, BitVec.getLsbD_or,
    BitVec.getLsbD_shiftLeft, BitVec.getLsbD_setWidth, BitVec.getLsbD_append]
  interval_cases i <;> simp

/-- R17: byte k has weight 2^(8k). -/
theorem le32_toNat (a b c d : Byte) :
    (le32 [a, b, c, d]).toNat = a.toNat + b.toNat * 2 ^ 8 + c.toNat * 2 ^ 16 + d.toNat * 2 ^ 24 := by
  rw [le32_eq_append]
  simp only [toNat_append_add]
  omega

/-- R17: the upper word over the lower one. -/
theorem le64_eq_append (s : List Byte) : le64 s = le32 (s.drop 4) ++ le32 (s.take 4) := by
  apply BitVec.eq_of_getLsbD_eq
  intro i hi
  simp only [le64, BitVec.getLsbD_or, BitVec.getLsbD_shiftLeft, BitVec.getLsbD_setWidth, BitVec.getLsbD_append]
  by_cases h : i < 32
  · simp [h, hi]
  · have hz : (le32 (s.take 4)).getLsbD i = false := BitVec.getLsbD_of_ge _ _ (Nat.le_of_not_lt h)
    simp [h, hi, hz, show i - 32 < 64 by omega]


/-- R17: byte k has weight 2^(8k). -/
theorem le64_toNat (a b c d e f g h : Byte) : (le64 [a, b, c, d, e, f, g, h]).toNat =
    a.toNat + b.toNat * 2 ^ 8 + c.toNat * 2 ^ 16 + d.toNat * 2 ^ 24 + e.toNat * 2 ^ 32 + f.toNat * 2 ^ 40 +
      g.toNat * 2 ^ 48 + h.toNat * 2 ^ 56 := by
  rw [le64_eq_append, toNat_append_add]
  change (le32 [e, f, g, h]).toNat * 2 ^ 32 + (le32 [a, b, c, d]).toNat = _
  rw [le32_toNat, le32_toNat]
  ring

end Sys2Proof.Machine
end

