-- ==== Sys2Proof/Laws/Memory.lean ====
section
/-! SUPPORT. The byte storage: what a read gives after a write, that every operation keeps the canonical form, and that
equal storage is equal data. -/

namespace Sys2Proof.Machine

@[simp] theorem Memory.read_nil (a : Nat) : Memory.read [] a = Config.unwrittenByte := rfl

theorem Memory.read_cons (k : Nat) (b : Byte) (m : Memory) (a : Nat) :
    Memory.read ((k, b) :: m) a = if k = a then b else Memory.read m a := rfl

theorem Memory.read_erase_same (m : Memory) (a : Nat) : (m.erase a).read a = Config.unwrittenByte := by
  induction m with
  | nil => rfl
  | cons c m ih =>
    obtain ⟨k, b⟩ := c
    by_cases h : k = a <;> simp [Memory.erase, Memory.read, h, ih]

theorem Memory.read_erase_other (m : Memory) {a x : Nat} (h : x ≠ a) : (m.erase a).read x = m.read x := by
  induction m with
  | nil => rfl
  | cons c m ih =>
    obtain ⟨k, b⟩ := c
    by_cases hk : k = a
    · subst hk
      simp [Memory.erase, Memory.read, ih, Ne.symm h]
    · simp [Memory.erase, Memory.read, hk, ih]

theorem Memory.read_insert_same (m : Memory) (a : Nat) (b : Byte) (hm : ∀ c ∈ m, c.1 ≠ a) :
    (m.insert a b).read a = b := by
  induction m with
  | nil => simp [Memory.insert, Memory.read]
  | cons c m ih =>
    obtain ⟨k, d⟩ := c
    have hk : k ≠ a := hm (k, d) (by simp)
    by_cases hlt : a < k
    · simp [Memory.insert, Memory.read, hlt]
    · simp [Memory.insert, Memory.read, hlt, hk, ih (fun c hc => hm c (by simp [hc]))]

theorem Memory.read_insert_other (m : Memory) {a x : Nat} (b : Byte) (h : x ≠ a) :
    (m.insert a b).read x = m.read x := by
  induction m with
  | nil => simp [Memory.insert, Memory.read, Ne.symm h]
  | cons c m ih =>
    obtain ⟨k, d⟩ := c
    by_cases hlt : a < k <;> simp [Memory.insert, Memory.read, hlt, ih, Ne.symm h]

theorem Memory.mem_erase (m : Memory) (a : Nat) (c : Host.Cell) : c ∈ m.erase a ↔ c ∈ m ∧ c.1 ≠ a := by
  induction m with
  | nil => simp [Memory.erase]
  | cons d m ih =>
    obtain ⟨k, b⟩ := d
    by_cases hk : k = a
    · subst hk
      simp only [Memory.erase, if_true, ih, List.mem_cons]
      constructor
      · rintro ⟨h1, h2⟩
        exact ⟨Or.inr h1, h2⟩
      · rintro ⟨h1 | h1, h2⟩
        · simp [h1] at h2
        · exact ⟨h1, h2⟩
    · simp only [Memory.erase, hk, if_false, List.mem_cons, ih]
      constructor
      · rintro (h1 | ⟨h1, h2⟩)
        · subst h1
          exact ⟨Or.inl rfl, hk⟩
        · exact ⟨Or.inr h1, h2⟩
      · rintro ⟨h1 | h1, h2⟩
        · exact Or.inl h1
        · exact Or.inr ⟨h1, h2⟩

theorem Memory.mem_insert (m : Memory) (a : Nat) (b : Byte) (c : Host.Cell) :
    c ∈ m.insert a b ↔ c = (a, b) ∨ c ∈ m := by
  induction m with
  | nil => simp [Memory.insert]
  | cons d m ih =>
    obtain ⟨k, e⟩ := d
    by_cases hlt : a < k
    · simp [Memory.insert, hlt]
    · simp only [Memory.insert, hlt, if_false, List.mem_cons, ih]
      tauto

/-- A read of the byte just written gives that byte. -/
@[simp] theorem Memory.read_write_same (m : Memory) (a : Nat) (b : Byte) : (m.write a b).read a = b := by
  unfold Memory.write
  split
  · rename_i h
    rw [Memory.read_erase_same, h]
  · exact Memory.read_insert_same _ _ _ (fun c hc => ((Memory.mem_erase m a c).1 hc).2)

/-- A write leaves every other byte alone. -/
theorem Memory.read_write_other (m : Memory) {a x : Nat} (b : Byte) (h : x ≠ a) :
    (m.write a b).read x = m.read x := by
  unfold Memory.write
  split
  · exact Memory.read_erase_other m h
  · rw [Memory.read_insert_other _ _ h, Memory.read_erase_other m h]

/-! ### Byte strings -/

@[simp] theorem Memory.readBytes_length (m : Memory) (a n : Nat) : (m.readBytes a n).length = n := by
  simp [Memory.readBytes]

@[simp] theorem Memory.readBytes_getElem (m : Memory) (a n k : Nat) (h : k < (m.readBytes a n).length) :
    (m.readBytes a n)[k] = m.read (a + k) := by
  simp [Memory.readBytes]

theorem Memory.readBytes_congr {m m' : Memory} {a n : Nat} (h : ∀ k < n, m'.read (a + k) = m.read (a + k)) :
    m'.readBytes a n = m.readBytes a n := by
  apply List.ext_getElem
  · simp
  · intro k h1 h2
    simpa using h k (by simpa using h1)

/-- A byte string stored leaves every byte outside it alone. -/
theorem Memory.read_writeBytes_outside (m : Memory) (a : Nat) (s : List Byte) {x : Nat}
    (h : x < a ∨ a + s.length ≤ x) : (m.writeBytes a s).read x = m.read x := by
  induction s generalizing m a with
  | nil => rfl
  | cons b s ih =>
    simp only [List.length_cons] at h
    rw [Memory.writeBytes, ih _ _ (by omega), Memory.read_write_other _ _ (by omega)]

/-- A byte string stored is read back byte by byte. -/
theorem Memory.read_writeBytes_inside (m : Memory) (a : Nat) (s : List Byte) {k : Nat} (h : k < s.length) :
    (m.writeBytes a s).read (a + k) = s[k] := by
  induction s generalizing m a k with
  | nil => simp at h
  | cons b s ih =>
    rw [Memory.writeBytes]
    cases k with
    | zero =>
      rw [Nat.add_zero, Memory.read_writeBytes_outside _ _ _ (by omega)]
      simp
    | succ k =>
      simp only [List.length_cons, Nat.add_lt_add_iff_right] at h
      have := ih (m.write a b) (a + 1) h
      rw [show a + (k + 1) = a + 1 + k by omega, this]
      simp

/-- A byte string stored is read back. -/
@[simp] theorem Memory.readBytes_writeBytes (m : Memory) (a : Nat) (s : List Byte) :
    (m.writeBytes a s).readBytes a s.length = s := by
  apply List.ext_getElem
  · simp
  · intro k h1 h2
    simpa using Memory.read_writeBytes_inside m a s h2

/-- Bytes that a stored byte string does not reach read as before. -/
theorem Memory.readBytes_writeBytes_disjoint (m : Memory) (a : Nat) (s : List Byte) {x n : Nat}
    (h : x + n ≤ a ∨ a + s.length ≤ x) : (m.writeBytes a s).readBytes x n = m.readBytes x n :=
  Memory.readBytes_congr fun k hk => Memory.read_writeBytes_outside m a s (by omega)

/-! ### The canonical form -/

theorem Memory.rising_cons (k : Nat) (b : Byte) (m : Memory) :
    Memory.rising ((k, b) :: m) = true ↔ (∀ c ∈ m, k < c.1) ∧ m.rising = true := by
  simp [Memory.rising]

theorem Memory.erase_rising (m : Memory) (a : Nat) (h : m.rising = true) : (m.erase a).rising = true := by
  induction m with
  | nil => rfl
  | cons d m ih =>
    obtain ⟨k, b⟩ := d
    rw [Memory.rising_cons] at h
    by_cases hk : k = a
    · simp [Memory.erase, hk, ih h.2]
    · simp only [Memory.erase, hk, if_false]
      rw [Memory.rising_cons]
      exact ⟨fun c hc => h.1 c ((Memory.mem_erase m a c).1 hc).1, ih h.2⟩

theorem Memory.insert_rising (m : Memory) (a : Nat) (b : Byte) (h : m.rising = true) (hm : ∀ c ∈ m, c.1 ≠ a) :
    (m.insert a b).rising = true := by
  induction m with
  | nil => simp [Memory.insert, Memory.rising]
  | cons d m ih =>
    obtain ⟨k, e⟩ := d
    have hk : k ≠ a := hm (k, e) (by simp)
    have hr := (Memory.rising_cons k e m).1 h
    by_cases hlt : a < k
    · simp only [Memory.insert, hlt, if_true]
      rw [Memory.rising_cons]
      refine ⟨fun c hc => ?_, h⟩
      rcases List.mem_cons.1 hc with rfl | hc
      · exact hlt
      · exact Nat.lt_trans hlt (hr.1 c hc)
    · simp only [Memory.insert, hlt, if_false]
      rw [Memory.rising_cons]
      refine ⟨fun c hc => ?_, ih hr.2 (fun c hc => hm c (by simp [hc]))⟩
      rcases (Memory.mem_insert m a b c).1 hc with rfl | hc
      · simp only
        omega
      · exact hr.1 c hc

theorem Memory.wf_iff (m : Memory) :
    m.wf = true ↔ m.rising = true ∧ ∀ c ∈ m, c.2 ≠ Config.unwrittenByte := by
  simp [Memory.wf]

/-- Storing a byte keeps the canonical form. -/
theorem Memory.write_wf (m : Memory) (a : Nat) (b : Byte) (h : m.wf = true) : (m.write a b).wf = true := by
  rw [Memory.wf_iff] at h ⊢
  unfold Memory.write
  split
  · exact ⟨Memory.erase_rising m a h.1, fun c hc => h.2 c ((Memory.mem_erase m a c).1 hc).1⟩
  · rename_i hb
    refine ⟨Memory.insert_rising _ _ _ (Memory.erase_rising m a h.1)
      (fun c hc => ((Memory.mem_erase m a c).1 hc).2), fun c hc => ?_⟩
    rcases (Memory.mem_insert _ _ _ c).1 hc with rfl | hc
    · exact hb
    · exact h.2 c ((Memory.mem_erase m a c).1 hc).1

/-- Storing a byte string keeps the canonical form. -/
theorem Memory.writeBytes_wf (m : Memory) (a : Nat) (s : List Byte) (h : m.wf = true) :
    (m.writeBytes a s).wf = true := by
  induction s generalizing m a with
  | nil => exact h
  | cons b s ih => exact ih _ _ (Memory.write_wf m a b h)

/-- Storing a byte inside DBUF or EBUF keeps the storage inside them. -/
theorem Memory.write_inBuffers (m : Memory) (a : Nat) (b : Byte) (h : m.inBuffers = true)
    (ha : Config.dbufBase ≤ a ∧ a < Config.ebufBase + Config.ebufBytes) : (m.write a b).inBuffers = true := by
  simp only [Memory.inBuffers, List.all_eq_true, Bool.and_eq_true, decide_eq_true_eq] at h ⊢
  intro c hc
  unfold Memory.write at hc
  split at hc
  · exact h c ((Memory.mem_erase m a c).1 hc).1
  · rcases (Memory.mem_insert _ _ _ c).1 hc with rfl | hc
    · exact ha
    · exact h c ((Memory.mem_erase m a c).1 hc).1

/-- Storing a byte string inside DBUF or EBUF keeps the storage inside them. -/
theorem Memory.writeBytes_inBuffers (m : Memory) (a : Nat) (s : List Byte) (h : m.inBuffers = true)
    (ha : Config.dbufBase ≤ a ∧ a + s.length ≤ Config.ebufBase + Config.ebufBytes) :
    (m.writeBytes a s).inBuffers = true := by
  induction s generalizing m a with
  | nil => exact h
  | cons b s ih =>
    simp only [List.length_cons] at ha
    exact ih _ _ (Memory.write_inBuffers m a b h (by omega)) (by omega)

theorem Memory.read_of_below (m : Memory) (a : Nat) (h : ∀ c ∈ m, a < c.1) : m.read a = Config.unwrittenByte := by
  induction m with
  | nil => rfl
  | cons d m ih =>
    obtain ⟨k, b⟩ := d
    have hk : a < k := h (k, b) (by simp)
    rw [Memory.read_cons, if_neg (by omega)]
    exact ih fun c hc => h c (by simp [hc])

/-- Equal storage is equal data: two canonical storages that read the same everywhere are the same list. -/
theorem Memory.ext_of_wf {m m' : Memory} (h : m.wf = true) (h' : m'.wf = true) (he : ∀ a, m.read a = m'.read a) :
    m = m' := by
  rw [Memory.wf_iff] at h h'
  induction m generalizing m' with
  | nil =>
    cases m' with
    | nil => rfl
    | cons d m' =>
      obtain ⟨k, b⟩ := d
      have := he k
      simp only [Memory.read_nil, Memory.read_cons, if_true] at this
      exact absurd this.symm (h'.2 (k, b) (by simp))
  | cons c m ih =>
    obtain ⟨j, a⟩ := c
    have hr := (Memory.rising_cons j a m).1 h.1
    cases m' with
    | nil =>
      have := he j
      simp only [Memory.read_nil, Memory.read_cons, if_true] at this
      exact absurd this (h.2 (j, a) (by simp))
    | cons d m' =>
      obtain ⟨k, b⟩ := d
      have hr' := (Memory.rising_cons k b m').1 h'.1
      have hjk : j = k := by
        rcases Nat.lt_trichotomy j k with hlt | heq | hgt
        · have := he j
          rw [Memory.read_cons, if_pos rfl, Memory.read_of_below ((k, b) :: m') j] at this
          · exact absurd this (h.2 (j, a) (by simp))
          · intro c hc
            rcases List.mem_cons.1 hc with rfl | hc
            · exact hlt
            · exact Nat.lt_trans hlt (hr'.1 c hc)
        · exact heq
        · have := he k
          rw [Memory.read_cons (k := k), if_pos rfl, Memory.read_of_below ((j, a) :: m) k] at this
          · exact absurd this.symm (h'.2 (k, b) (by simp))
          · intro c hc
            rcases List.mem_cons.1 hc with rfl | hc
            · exact hgt
            · exact Nat.lt_trans hgt (hr.1 c hc)
      subst hjk
      have hab : a = b := by simpa [Memory.read_cons] using he j
      subst hab
      have hm : m = m' := by
        refine ih ⟨hr.2, fun c hc => h.2 c (by simp [hc])⟩ ⟨hr'.2, fun c hc => h'.2 c (by simp [hc])⟩ ?_
        intro x
        by_cases hx : j = x
        · subst hx
          rw [Memory.read_of_below m j hr.1, Memory.read_of_below m' j hr'.1]
        · simpa [Memory.read_cons, hx] using he x
      rw [hm]

end Sys2Proof.Machine
end

