-- ==== Sys2Proof/Laws/State.lean ====
section
/-! SUPPORT. What each named change of the state does to each field of it, one lemma per field and change, so that no
proof unfolds a record update. -/

namespace Sys2Proof.Machine

variable (s : State)

/-! ### complete -/

@[simp] theorem State.complete_arg0 (op : Byte) (e : ErrCode) : (s.complete op e).arg0 = s.arg0 := rfl
@[simp] theorem State.complete_arg1 (op : Byte) (e : ErrCode) : (s.complete op e).arg1 = s.arg1 := rfl
@[simp] theorem State.complete_arg2 (op : Byte) (e : ErrCode) : (s.complete op e).arg2 = s.arg2 := rfl
@[simp] theorem State.complete_res0 (op : Byte) (e : ErrCode) : (s.complete op e).res0 = s.res0 := rfl
@[simp] theorem State.complete_res1 (op : Byte) (e : ErrCode) : (s.complete op e).res1 = s.res1 := rfl
@[simp] theorem State.complete_res2 (op : Byte) (e : ErrCode) : (s.complete op e).res2 = s.res2 := rfl
@[simp] theorem State.complete_ovr (op : Byte) (e : ErrCode) : (s.complete op e).ovr = s.ovr := rfl
@[simp] theorem State.complete_err (op : Byte) (e : ErrCode) : (s.complete op e).err = e := rfl
@[simp] theorem State.complete_lastop (op : Byte) (e : ErrCode) : (s.complete op e).lastop = op := rfl
@[simp] theorem State.complete_mtState (op : Byte) (e : ErrCode) : (s.complete op e).mtState = s.mtState := rfl
@[simp] theorem State.complete_mtCursor (op : Byte) (e : ErrCode) : (s.complete op e).mtCursor = s.mtCursor := rfl
@[simp] theorem State.complete_bf (op : Byte) (e : ErrCode) : (s.complete op e).bf = s.bf := rfl
@[simp] theorem State.complete_bfValid (op : Byte) (e : ErrCode) : (s.complete op e).bfValid = s.bfValid := rfl
@[simp] theorem State.complete_bfOwnerArc (op : Byte) (e : ErrCode) :
    (s.complete op e).bfOwnerArc = s.bfOwnerArc := rfl
@[simp] theorem State.complete_bfKeylen (op : Byte) (e : ErrCode) : (s.complete op e).bfKeylen = s.bfKeylen := rfl
@[simp] theorem State.complete_tocSeed (op : Byte) (e : ErrCode) : (s.complete op e).tocSeed = s.tocSeed := rfl
@[simp] theorem State.complete_tocValid (op : Byte) (e : ErrCode) : (s.complete op e).tocValid = s.tocValid := rfl
@[simp] theorem State.complete_arcState (op : Byte) (e : ErrCode) : (s.complete op e).arcState = s.arcState := rfl
@[simp] theorem State.complete_arcCount (op : Byte) (e : ErrCode) : (s.complete op e).arcCount = s.arcCount := rfl
@[simp] theorem State.complete_arcIndex (op : Byte) (e : ErrCode) : (s.complete op e).arcIndex = s.arcIndex := rfl
@[simp] theorem State.complete_arcRows (op : Byte) (e : ErrCode) : (s.complete op e).arcRows = s.arcRows := rfl
@[simp] theorem State.complete_arcEnc (op : Byte) (e : ErrCode) : (s.complete op e).arcEnc = s.arcEnc := rfl
@[simp] theorem State.complete_arcKeyseed (op : Byte) (e : ErrCode) :
    (s.complete op e).arcKeyseed = s.arcKeyseed := rfl
@[simp] theorem State.complete_arcErr (op : Byte) (e : ErrCode) : (s.complete op e).arcErr = s.arcErr := rfl
@[simp] theorem State.complete_mem (op : Byte) (e : ErrCode) : (s.complete op e).mem = s.mem := rfl
@[simp] theorem State.complete_pending (op : Byte) (e : ErrCode) : (s.complete op e).pending = none := rfl
@[simp] theorem State.complete_params (op : Byte) (e : ErrCode) : (s.complete op e).params = s.params := rfl
@[simp] theorem State.complete_hostQueue (op : Byte) (e : ErrCode) : (s.complete op e).hostQueue = s.hostQueue := rfl
@[simp] theorem State.complete_hostReads (op : Byte) (e : ErrCode) : (s.complete op e).hostReads = s.hostReads := rfl
@[simp] theorem State.complete_latencies (op : Byte) (e : ErrCode) : (s.complete op e).latencies = s.latencies := rfl
@[simp] theorem State.complete_wait (op : Byte) (e : ErrCode) : (s.complete op e).wait = s.wait := rfl
@[simp] theorem State.complete_freeIndex (op : Byte) (e : ErrCode) : (s.complete op e).freeIndex = s.freeIndex := rfl

/-! ### archiveFatal -/

@[simp] theorem State.archiveFatal_arg0 (e : ErrCode) : (s.archiveFatal e).arg0 = s.arg0 := rfl
@[simp] theorem State.archiveFatal_arg1 (e : ErrCode) : (s.archiveFatal e).arg1 = s.arg1 := rfl
@[simp] theorem State.archiveFatal_arg2 (e : ErrCode) : (s.archiveFatal e).arg2 = s.arg2 := rfl
@[simp] theorem State.archiveFatal_res0 (e : ErrCode) : (s.archiveFatal e).res0 = s.res0 := rfl
@[simp] theorem State.archiveFatal_res1 (e : ErrCode) : (s.archiveFatal e).res1 = s.res1 := rfl
@[simp] theorem State.archiveFatal_res2 (e : ErrCode) : (s.archiveFatal e).res2 = s.res2 := rfl
@[simp] theorem State.archiveFatal_ovr (e : ErrCode) : (s.archiveFatal e).ovr = s.ovr := rfl
@[simp] theorem State.archiveFatal_err (e : ErrCode) : (s.archiveFatal e).err = s.err := rfl
@[simp] theorem State.archiveFatal_lastop (e : ErrCode) : (s.archiveFatal e).lastop = s.lastop := rfl
@[simp] theorem State.archiveFatal_mtState (e : ErrCode) : (s.archiveFatal e).mtState = s.mtState := rfl
@[simp] theorem State.archiveFatal_mtCursor (e : ErrCode) : (s.archiveFatal e).mtCursor = s.mtCursor := rfl
@[simp] theorem State.archiveFatal_bf (e : ErrCode) : (s.archiveFatal e).bf = s.bf := rfl
@[simp] theorem State.archiveFatal_bfValid (e : ErrCode) : (s.archiveFatal e).bfValid = s.bfValid := rfl
@[simp] theorem State.archiveFatal_bfOwnerArc (e : ErrCode) : (s.archiveFatal e).bfOwnerArc = s.bfOwnerArc := rfl
@[simp] theorem State.archiveFatal_bfKeylen (e : ErrCode) : (s.archiveFatal e).bfKeylen = s.bfKeylen := rfl
@[simp] theorem State.archiveFatal_tocSeed (e : ErrCode) : (s.archiveFatal e).tocSeed = s.tocSeed := rfl
@[simp] theorem State.archiveFatal_tocValid (e : ErrCode) : (s.archiveFatal e).tocValid = s.tocValid := rfl
@[simp] theorem State.archiveFatal_arcState (e : ErrCode) : (s.archiveFatal e).arcState = .fatal := rfl
@[simp] theorem State.archiveFatal_arcCount (e : ErrCode) : (s.archiveFatal e).arcCount = s.arcCount := rfl
@[simp] theorem State.archiveFatal_arcIndex (e : ErrCode) : (s.archiveFatal e).arcIndex = s.arcIndex := rfl
@[simp] theorem State.archiveFatal_arcRows (e : ErrCode) : (s.archiveFatal e).arcRows = s.arcRows := rfl
@[simp] theorem State.archiveFatal_arcEnc (e : ErrCode) : (s.archiveFatal e).arcEnc = s.arcEnc := rfl
@[simp] theorem State.archiveFatal_arcKeyseed (e : ErrCode) : (s.archiveFatal e).arcKeyseed = s.arcKeyseed := rfl
@[simp] theorem State.archiveFatal_arcErr (e : ErrCode) : (s.archiveFatal e).arcErr = e := rfl
@[simp] theorem State.archiveFatal_mem (e : ErrCode) : (s.archiveFatal e).mem = s.mem := rfl
@[simp] theorem State.archiveFatal_pending (e : ErrCode) : (s.archiveFatal e).pending = s.pending := rfl
@[simp] theorem State.archiveFatal_params (e : ErrCode) : (s.archiveFatal e).params = s.params := rfl
@[simp] theorem State.archiveFatal_hostQueue (e : ErrCode) : (s.archiveFatal e).hostQueue = s.hostQueue := rfl
@[simp] theorem State.archiveFatal_hostReads (e : ErrCode) : (s.archiveFatal e).hostReads = s.hostReads := rfl
@[simp] theorem State.archiveFatal_latencies (e : ErrCode) : (s.archiveFatal e).latencies = s.latencies := rfl
@[simp] theorem State.archiveFatal_wait (e : ErrCode) : (s.archiveFatal e).wait = s.wait := rfl
@[simp] theorem State.archiveFatal_freeIndex (e : ErrCode) : (s.archiveFatal e).freeIndex = s.freeIndex := rfl

/-! ### setDbuf -/

@[simp] theorem State.setDbuf_arg0 (a : Nat) (b : List Byte) : (s.setDbuf a b).arg0 = s.arg0 := rfl
@[simp] theorem State.setDbuf_arg1 (a : Nat) (b : List Byte) : (s.setDbuf a b).arg1 = s.arg1 := rfl
@[simp] theorem State.setDbuf_arg2 (a : Nat) (b : List Byte) : (s.setDbuf a b).arg2 = s.arg2 := rfl
@[simp] theorem State.setDbuf_res0 (a : Nat) (b : List Byte) : (s.setDbuf a b).res0 = s.res0 := rfl
@[simp] theorem State.setDbuf_res1 (a : Nat) (b : List Byte) : (s.setDbuf a b).res1 = s.res1 := rfl
@[simp] theorem State.setDbuf_res2 (a : Nat) (b : List Byte) : (s.setDbuf a b).res2 = s.res2 := rfl
@[simp] theorem State.setDbuf_ovr (a : Nat) (b : List Byte) : (s.setDbuf a b).ovr = s.ovr := rfl
@[simp] theorem State.setDbuf_err (a : Nat) (b : List Byte) : (s.setDbuf a b).err = s.err := rfl
@[simp] theorem State.setDbuf_lastop (a : Nat) (b : List Byte) : (s.setDbuf a b).lastop = s.lastop := rfl
@[simp] theorem State.setDbuf_mtState (a : Nat) (b : List Byte) : (s.setDbuf a b).mtState = s.mtState := rfl
@[simp] theorem State.setDbuf_mtCursor (a : Nat) (b : List Byte) : (s.setDbuf a b).mtCursor = s.mtCursor := rfl
@[simp] theorem State.setDbuf_bf (a : Nat) (b : List Byte) : (s.setDbuf a b).bf = s.bf := rfl
@[simp] theorem State.setDbuf_bfValid (a : Nat) (b : List Byte) : (s.setDbuf a b).bfValid = s.bfValid := rfl
@[simp] theorem State.setDbuf_bfOwnerArc (a : Nat) (b : List Byte) : (s.setDbuf a b).bfOwnerArc = s.bfOwnerArc := rfl
@[simp] theorem State.setDbuf_bfKeylen (a : Nat) (b : List Byte) : (s.setDbuf a b).bfKeylen = s.bfKeylen := rfl
@[simp] theorem State.setDbuf_tocSeed (a : Nat) (b : List Byte) : (s.setDbuf a b).tocSeed = s.tocSeed := rfl
@[simp] theorem State.setDbuf_tocValid (a : Nat) (b : List Byte) : (s.setDbuf a b).tocValid = s.tocValid := rfl
@[simp] theorem State.setDbuf_arcState (a : Nat) (b : List Byte) : (s.setDbuf a b).arcState = s.arcState := rfl
@[simp] theorem State.setDbuf_arcCount (a : Nat) (b : List Byte) : (s.setDbuf a b).arcCount = s.arcCount := rfl
@[simp] theorem State.setDbuf_arcIndex (a : Nat) (b : List Byte) : (s.setDbuf a b).arcIndex = s.arcIndex := rfl
@[simp] theorem State.setDbuf_arcRows (a : Nat) (b : List Byte) : (s.setDbuf a b).arcRows = s.arcRows := rfl
@[simp] theorem State.setDbuf_arcEnc (a : Nat) (b : List Byte) : (s.setDbuf a b).arcEnc = s.arcEnc := rfl
@[simp] theorem State.setDbuf_arcKeyseed (a : Nat) (b : List Byte) : (s.setDbuf a b).arcKeyseed = s.arcKeyseed := rfl
@[simp] theorem State.setDbuf_arcErr (a : Nat) (b : List Byte) : (s.setDbuf a b).arcErr = s.arcErr := rfl
@[simp] theorem State.setDbuf_mem (a : Nat) (b : List Byte) :
    (s.setDbuf a b).mem = s.mem.writeBytes (Config.dbufBase + a) b := rfl
@[simp] theorem State.setDbuf_pending (a : Nat) (b : List Byte) : (s.setDbuf a b).pending = s.pending := rfl
@[simp] theorem State.setDbuf_params (a : Nat) (b : List Byte) : (s.setDbuf a b).params = s.params := rfl
@[simp] theorem State.setDbuf_hostQueue (a : Nat) (b : List Byte) : (s.setDbuf a b).hostQueue = s.hostQueue := rfl
@[simp] theorem State.setDbuf_hostReads (a : Nat) (b : List Byte) : (s.setDbuf a b).hostReads = s.hostReads := rfl
@[simp] theorem State.setDbuf_latencies (a : Nat) (b : List Byte) : (s.setDbuf a b).latencies = s.latencies := rfl
@[simp] theorem State.setDbuf_wait (a : Nat) (b : List Byte) : (s.setDbuf a b).wait = s.wait := rfl
@[simp] theorem State.setDbuf_freeIndex (a : Nat) (b : List Byte) : (s.setDbuf a b).freeIndex = s.freeIndex := rfl

/-! ### setEbuf -/

@[simp] theorem State.setEbuf_arg0 (a : Nat) (b : List Byte) : (s.setEbuf a b).arg0 = s.arg0 := rfl
@[simp] theorem State.setEbuf_arg1 (a : Nat) (b : List Byte) : (s.setEbuf a b).arg1 = s.arg1 := rfl
@[simp] theorem State.setEbuf_arg2 (a : Nat) (b : List Byte) : (s.setEbuf a b).arg2 = s.arg2 := rfl
@[simp] theorem State.setEbuf_res0 (a : Nat) (b : List Byte) : (s.setEbuf a b).res0 = s.res0 := rfl
@[simp] theorem State.setEbuf_res1 (a : Nat) (b : List Byte) : (s.setEbuf a b).res1 = s.res1 := rfl
@[simp] theorem State.setEbuf_res2 (a : Nat) (b : List Byte) : (s.setEbuf a b).res2 = s.res2 := rfl
@[simp] theorem State.setEbuf_ovr (a : Nat) (b : List Byte) : (s.setEbuf a b).ovr = s.ovr := rfl
@[simp] theorem State.setEbuf_err (a : Nat) (b : List Byte) : (s.setEbuf a b).err = s.err := rfl
@[simp] theorem State.setEbuf_lastop (a : Nat) (b : List Byte) : (s.setEbuf a b).lastop = s.lastop := rfl
@[simp] theorem State.setEbuf_mtState (a : Nat) (b : List Byte) : (s.setEbuf a b).mtState = s.mtState := rfl
@[simp] theorem State.setEbuf_mtCursor (a : Nat) (b : List Byte) : (s.setEbuf a b).mtCursor = s.mtCursor := rfl
@[simp] theorem State.setEbuf_bf (a : Nat) (b : List Byte) : (s.setEbuf a b).bf = s.bf := rfl
@[simp] theorem State.setEbuf_bfValid (a : Nat) (b : List Byte) : (s.setEbuf a b).bfValid = s.bfValid := rfl
@[simp] theorem State.setEbuf_bfOwnerArc (a : Nat) (b : List Byte) : (s.setEbuf a b).bfOwnerArc = s.bfOwnerArc := rfl
@[simp] theorem State.setEbuf_bfKeylen (a : Nat) (b : List Byte) : (s.setEbuf a b).bfKeylen = s.bfKeylen := rfl
@[simp] theorem State.setEbuf_tocSeed (a : Nat) (b : List Byte) : (s.setEbuf a b).tocSeed = s.tocSeed := rfl
@[simp] theorem State.setEbuf_tocValid (a : Nat) (b : List Byte) : (s.setEbuf a b).tocValid = s.tocValid := rfl
@[simp] theorem State.setEbuf_arcState (a : Nat) (b : List Byte) : (s.setEbuf a b).arcState = s.arcState := rfl
@[simp] theorem State.setEbuf_arcCount (a : Nat) (b : List Byte) : (s.setEbuf a b).arcCount = s.arcCount := rfl
@[simp] theorem State.setEbuf_arcIndex (a : Nat) (b : List Byte) : (s.setEbuf a b).arcIndex = s.arcIndex := rfl
@[simp] theorem State.setEbuf_arcRows (a : Nat) (b : List Byte) : (s.setEbuf a b).arcRows = s.arcRows := rfl
@[simp] theorem State.setEbuf_arcEnc (a : Nat) (b : List Byte) : (s.setEbuf a b).arcEnc = s.arcEnc := rfl
@[simp] theorem State.setEbuf_arcKeyseed (a : Nat) (b : List Byte) : (s.setEbuf a b).arcKeyseed = s.arcKeyseed := rfl
@[simp] theorem State.setEbuf_arcErr (a : Nat) (b : List Byte) : (s.setEbuf a b).arcErr = s.arcErr := rfl
@[simp] theorem State.setEbuf_mem (a : Nat) (b : List Byte) :
    (s.setEbuf a b).mem = s.mem.writeBytes (Config.ebufBase + a) b := rfl
@[simp] theorem State.setEbuf_pending (a : Nat) (b : List Byte) : (s.setEbuf a b).pending = s.pending := rfl
@[simp] theorem State.setEbuf_params (a : Nat) (b : List Byte) : (s.setEbuf a b).params = s.params := rfl
@[simp] theorem State.setEbuf_hostQueue (a : Nat) (b : List Byte) : (s.setEbuf a b).hostQueue = s.hostQueue := rfl
@[simp] theorem State.setEbuf_hostReads (a : Nat) (b : List Byte) : (s.setEbuf a b).hostReads = s.hostReads := rfl
@[simp] theorem State.setEbuf_latencies (a : Nat) (b : List Byte) : (s.setEbuf a b).latencies = s.latencies := rfl
@[simp] theorem State.setEbuf_wait (a : Nat) (b : List Byte) : (s.setEbuf a b).wait = s.wait := rfl
@[simp] theorem State.setEbuf_freeIndex (a : Nat) (b : List Byte) : (s.setEbuf a b).freeIndex = s.freeIndex := rfl

/-! ### seeded -/

@[simp] theorem State.seeded_arg0 (w : Word) : (s.seeded w).arg0 = s.arg0 := rfl
@[simp] theorem State.seeded_arg1 (w : Word) : (s.seeded w).arg1 = s.arg1 := rfl
@[simp] theorem State.seeded_arg2 (w : Word) : (s.seeded w).arg2 = s.arg2 := rfl
@[simp] theorem State.seeded_res0 (w : Word) : (s.seeded w).res0 = s.res0 := rfl
@[simp] theorem State.seeded_res1 (w : Word) : (s.seeded w).res1 = s.res1 := rfl
@[simp] theorem State.seeded_res2 (w : Word) : (s.seeded w).res2 = s.res2 := rfl
@[simp] theorem State.seeded_ovr (w : Word) : (s.seeded w).ovr = s.ovr := rfl
@[simp] theorem State.seeded_err (w : Word) : (s.seeded w).err = s.err := rfl
@[simp] theorem State.seeded_lastop (w : Word) : (s.seeded w).lastop = s.lastop := rfl
@[simp] theorem State.seeded_mtState (w : Word) : (s.seeded w).mtState = seedWords w := rfl
@[simp] theorem State.seeded_mtCursor (w : Word) : (s.seeded w).mtCursor = 624 := rfl
@[simp] theorem State.seeded_bf (w : Word) : (s.seeded w).bf = s.bf := rfl
@[simp] theorem State.seeded_bfValid (w : Word) : (s.seeded w).bfValid = s.bfValid := rfl
@[simp] theorem State.seeded_bfOwnerArc (w : Word) : (s.seeded w).bfOwnerArc = s.bfOwnerArc := rfl
@[simp] theorem State.seeded_bfKeylen (w : Word) : (s.seeded w).bfKeylen = s.bfKeylen := rfl
@[simp] theorem State.seeded_tocSeed (w : Word) : (s.seeded w).tocSeed = s.tocSeed := rfl
@[simp] theorem State.seeded_tocValid (w : Word) : (s.seeded w).tocValid = s.tocValid := rfl
@[simp] theorem State.seeded_arcState (w : Word) : (s.seeded w).arcState = s.arcState := rfl
@[simp] theorem State.seeded_arcCount (w : Word) : (s.seeded w).arcCount = s.arcCount := rfl
@[simp] theorem State.seeded_arcIndex (w : Word) : (s.seeded w).arcIndex = s.arcIndex := rfl
@[simp] theorem State.seeded_arcRows (w : Word) : (s.seeded w).arcRows = s.arcRows := rfl
@[simp] theorem State.seeded_arcEnc (w : Word) : (s.seeded w).arcEnc = s.arcEnc := rfl
@[simp] theorem State.seeded_arcKeyseed (w : Word) : (s.seeded w).arcKeyseed = s.arcKeyseed := rfl
@[simp] theorem State.seeded_arcErr (w : Word) : (s.seeded w).arcErr = s.arcErr := rfl
@[simp] theorem State.seeded_mem (w : Word) : (s.seeded w).mem = s.mem := rfl
@[simp] theorem State.seeded_pending (w : Word) : (s.seeded w).pending = s.pending := rfl
@[simp] theorem State.seeded_params (w : Word) : (s.seeded w).params = s.params := rfl
@[simp] theorem State.seeded_hostQueue (w : Word) : (s.seeded w).hostQueue = s.hostQueue := rfl
@[simp] theorem State.seeded_hostReads (w : Word) : (s.seeded w).hostReads = s.hostReads := rfl
@[simp] theorem State.seeded_latencies (w : Word) : (s.seeded w).latencies = s.latencies := rfl
@[simp] theorem State.seeded_wait (w : Word) : (s.seeded w).wait = s.wait := rfl
@[simp] theorem State.seeded_freeIndex (w : Word) : (s.seeded w).freeIndex = s.freeIndex := rfl

/-! ### twisted -/

@[simp] theorem State.twisted_arg0 : s.twisted.arg0 = s.arg0 := rfl
@[simp] theorem State.twisted_arg1 : s.twisted.arg1 = s.arg1 := rfl
@[simp] theorem State.twisted_arg2 : s.twisted.arg2 = s.arg2 := rfl
@[simp] theorem State.twisted_res0 : s.twisted.res0 = s.res0 := rfl
@[simp] theorem State.twisted_res1 : s.twisted.res1 = s.res1 := rfl
@[simp] theorem State.twisted_res2 : s.twisted.res2 = s.res2 := rfl
@[simp] theorem State.twisted_ovr : s.twisted.ovr = s.ovr := rfl
@[simp] theorem State.twisted_err : s.twisted.err = s.err := rfl
@[simp] theorem State.twisted_lastop : s.twisted.lastop = s.lastop := rfl
@[simp] theorem State.twisted_mtState :
    s.twisted.mtState = twistWords (if s.mtCursor = 625 then seedWords Config.mtDefaultSeed else s.mtState) := rfl
@[simp] theorem State.twisted_mtCursor : s.twisted.mtCursor = 0 := rfl
@[simp] theorem State.twisted_bf : s.twisted.bf = s.bf := rfl
@[simp] theorem State.twisted_bfValid : s.twisted.bfValid = s.bfValid := rfl
@[simp] theorem State.twisted_bfOwnerArc : s.twisted.bfOwnerArc = s.bfOwnerArc := rfl
@[simp] theorem State.twisted_bfKeylen : s.twisted.bfKeylen = s.bfKeylen := rfl
@[simp] theorem State.twisted_tocSeed : s.twisted.tocSeed = s.tocSeed := rfl
@[simp] theorem State.twisted_tocValid : s.twisted.tocValid = s.tocValid := rfl
@[simp] theorem State.twisted_arcState : s.twisted.arcState = s.arcState := rfl
@[simp] theorem State.twisted_arcCount : s.twisted.arcCount = s.arcCount := rfl
@[simp] theorem State.twisted_arcIndex : s.twisted.arcIndex = s.arcIndex := rfl
@[simp] theorem State.twisted_arcRows : s.twisted.arcRows = s.arcRows := rfl
@[simp] theorem State.twisted_arcEnc : s.twisted.arcEnc = s.arcEnc := rfl
@[simp] theorem State.twisted_arcKeyseed : s.twisted.arcKeyseed = s.arcKeyseed := rfl
@[simp] theorem State.twisted_arcErr : s.twisted.arcErr = s.arcErr := rfl
@[simp] theorem State.twisted_mem : s.twisted.mem = s.mem := rfl
@[simp] theorem State.twisted_pending : s.twisted.pending = s.pending := rfl
@[simp] theorem State.twisted_params : s.twisted.params = s.params := rfl
@[simp] theorem State.twisted_hostQueue : s.twisted.hostQueue = s.hostQueue := rfl
@[simp] theorem State.twisted_hostReads : s.twisted.hostReads = s.hostReads := rfl
@[simp] theorem State.twisted_latencies : s.twisted.latencies = s.latencies := rfl
@[simp] theorem State.twisted_wait : s.twisted.wait = s.wait := rfl
@[simp] theorem State.twisted_freeIndex : s.twisted.freeIndex = s.freeIndex := rfl

/-! ### withSchedule -/

@[simp] theorem State.withSchedule_arg0 (k : List Byte) (o : Bool) (n : BitVec 6) :
    (s.withSchedule k o n).arg0 = s.arg0 := rfl
@[simp] theorem State.withSchedule_arg1 (k : List Byte) (o : Bool) (n : BitVec 6) :
    (s.withSchedule k o n).arg1 = s.arg1 := rfl
@[simp] theorem State.withSchedule_arg2 (k : List Byte) (o : Bool) (n : BitVec 6) :
    (s.withSchedule k o n).arg2 = s.arg2 := rfl
@[simp] theorem State.withSchedule_res0 (k : List Byte) (o : Bool) (n : BitVec 6) :
    (s.withSchedule k o n).res0 = s.res0 := rfl
@[simp] theorem State.withSchedule_res1 (k : List Byte) (o : Bool) (n : BitVec 6) :
    (s.withSchedule k o n).res1 = s.res1 := rfl
@[simp] theorem State.withSchedule_res2 (k : List Byte) (o : Bool) (n : BitVec 6) :
    (s.withSchedule k o n).res2 = s.res2 := rfl
@[simp] theorem State.withSchedule_ovr (k : List Byte) (o : Bool) (n : BitVec 6) :
    (s.withSchedule k o n).ovr = s.ovr := rfl
@[simp] theorem State.withSchedule_err (k : List Byte) (o : Bool) (n : BitVec 6) :
    (s.withSchedule k o n).err = s.err := rfl
@[simp] theorem State.withSchedule_lastop (k : List Byte) (o : Bool) (n : BitVec 6) :
    (s.withSchedule k o n).lastop = s.lastop := rfl
@[simp] theorem State.withSchedule_mtState (k : List Byte) (o : Bool) (n : BitVec 6) :
    (s.withSchedule k o n).mtState = s.mtState := rfl
@[simp] theorem State.withSchedule_mtCursor (k : List Byte) (o : Bool) (n : BitVec 6) :
    (s.withSchedule k o n).mtCursor = s.mtCursor := rfl
@[simp] theorem State.withSchedule_bf (k : List Byte) (o : Bool) (n : BitVec 6) :
    (s.withSchedule k o n).bf = keySchedule k := rfl
@[simp] theorem State.withSchedule_bfValid (k : List Byte) (o : Bool) (n : BitVec 6) :
    (s.withSchedule k o n).bfValid = true := rfl
@[simp] theorem State.withSchedule_bfOwnerArc (k : List Byte) (o : Bool) (n : BitVec 6) :
    (s.withSchedule k o n).bfOwnerArc = o := rfl
@[simp] theorem State.withSchedule_bfKeylen (k : List Byte) (o : Bool) (n : BitVec 6) :
    (s.withSchedule k o n).bfKeylen = n := rfl
@[simp] theorem State.withSchedule_tocSeed (k : List Byte) (o : Bool) (n : BitVec 6) :
    (s.withSchedule k o n).tocSeed = s.tocSeed := rfl
@[simp] theorem State.withSchedule_tocValid (k : List Byte) (o : Bool) (n : BitVec 6) :
    (s.withSchedule k o n).tocValid = s.tocValid := rfl
@[simp] theorem State.withSchedule_arcState (k : List Byte) (o : Bool) (n : BitVec 6) :
    (s.withSchedule k o n).arcState = s.arcState := rfl
@[simp] theorem State.withSchedule_arcCount (k : List Byte) (o : Bool) (n : BitVec 6) :
    (s.withSchedule k o n).arcCount = s.arcCount := rfl
@[simp] theorem State.withSchedule_arcIndex (k : List Byte) (o : Bool) (n : BitVec 6) :
    (s.withSchedule k o n).arcIndex = s.arcIndex := rfl
@[simp] theorem State.withSchedule_arcRows (k : List Byte) (o : Bool) (n : BitVec 6) :
    (s.withSchedule k o n).arcRows = s.arcRows := rfl
@[simp] theorem State.withSchedule_arcEnc (k : List Byte) (o : Bool) (n : BitVec 6) :
    (s.withSchedule k o n).arcEnc = s.arcEnc := rfl
@[simp] theorem State.withSchedule_arcKeyseed (k : List Byte) (o : Bool) (n : BitVec 6) :
    (s.withSchedule k o n).arcKeyseed = s.arcKeyseed := rfl
@[simp] theorem State.withSchedule_arcErr (k : List Byte) (o : Bool) (n : BitVec 6) :
    (s.withSchedule k o n).arcErr = s.arcErr := rfl
@[simp] theorem State.withSchedule_mem (k : List Byte) (o : Bool) (n : BitVec 6) :
    (s.withSchedule k o n).mem = s.mem := rfl
@[simp] theorem State.withSchedule_pending (k : List Byte) (o : Bool) (n : BitVec 6) :
    (s.withSchedule k o n).pending = s.pending := rfl
@[simp] theorem State.withSchedule_params (k : List Byte) (o : Bool) (n : BitVec 6) :
    (s.withSchedule k o n).params = s.params := rfl
@[simp] theorem State.withSchedule_hostQueue (k : List Byte) (o : Bool) (n : BitVec 6) :
    (s.withSchedule k o n).hostQueue = s.hostQueue := rfl
@[simp] theorem State.withSchedule_hostReads (k : List Byte) (o : Bool) (n : BitVec 6) :
    (s.withSchedule k o n).hostReads = s.hostReads := rfl
@[simp] theorem State.withSchedule_latencies (k : List Byte) (o : Bool) (n : BitVec 6) :
    (s.withSchedule k o n).latencies = s.latencies := rfl
@[simp] theorem State.withSchedule_wait (k : List Byte) (o : Bool) (n : BitVec 6) :
    (s.withSchedule k o n).wait = s.wait := rfl
@[simp] theorem State.withSchedule_freeIndex (k : List Byte) (o : Bool) (n : BitVec 6) :
    (s.withSchedule k o n).freeIndex = s.freeIndex := rfl

/-! ### newArchive -/

@[simp] theorem State.newArchive_arg0 : s.newArchive.arg0 = s.arg0 := rfl
@[simp] theorem State.newArchive_arg1 : s.newArchive.arg1 = s.arg1 := rfl
@[simp] theorem State.newArchive_arg2 : s.newArchive.arg2 = s.arg2 := rfl
@[simp] theorem State.newArchive_res0 : s.newArchive.res0 = s.res0 := rfl
@[simp] theorem State.newArchive_res1 : s.newArchive.res1 = s.res1 := rfl
@[simp] theorem State.newArchive_res2 : s.newArchive.res2 = s.res2 := rfl
@[simp] theorem State.newArchive_ovr : s.newArchive.ovr = s.ovr := rfl
@[simp] theorem State.newArchive_err : s.newArchive.err = s.err := rfl
@[simp] theorem State.newArchive_lastop : s.newArchive.lastop = s.lastop := rfl
@[simp] theorem State.newArchive_mtState : s.newArchive.mtState = s.mtState := rfl
@[simp] theorem State.newArchive_mtCursor : s.newArchive.mtCursor = s.mtCursor := rfl
@[simp] theorem State.newArchive_bf : s.newArchive.bf = s.bf := rfl
@[simp] theorem State.newArchive_bfValid : s.newArchive.bfValid = s.bfValid := rfl
@[simp] theorem State.newArchive_bfOwnerArc : s.newArchive.bfOwnerArc = s.bfOwnerArc := rfl
@[simp] theorem State.newArchive_bfKeylen : s.newArchive.bfKeylen = s.bfKeylen := rfl
@[simp] theorem State.newArchive_tocSeed : s.newArchive.tocSeed = s.tocSeed := rfl
@[simp] theorem State.newArchive_tocValid : s.newArchive.tocValid = s.tocValid := rfl
@[simp] theorem State.newArchive_arcState : s.newArchive.arcState = s.arcState := rfl
@[simp] theorem State.newArchive_arcCount : s.newArchive.arcCount = 0 := rfl
@[simp] theorem State.newArchive_arcIndex : s.newArchive.arcIndex = 0 := rfl
@[simp] theorem State.newArchive_arcRows : s.newArchive.arcRows = 0 := rfl
@[simp] theorem State.newArchive_arcEnc : s.newArchive.arcEnc = false := rfl
@[simp] theorem State.newArchive_arcKeyseed : s.newArchive.arcKeyseed = 0 := rfl
@[simp] theorem State.newArchive_arcErr : s.newArchive.arcErr = .ok := rfl
@[simp] theorem State.newArchive_mem : s.newArchive.mem = s.mem := rfl
@[simp] theorem State.newArchive_pending : s.newArchive.pending = s.pending := rfl
@[simp] theorem State.newArchive_params : s.newArchive.params = s.params := rfl
@[simp] theorem State.newArchive_hostQueue : s.newArchive.hostQueue = s.hostQueue := rfl
@[simp] theorem State.newArchive_hostReads : s.newArchive.hostReads = s.hostReads := rfl
@[simp] theorem State.newArchive_latencies : s.newArchive.latencies = s.latencies := rfl
@[simp] theorem State.newArchive_wait : s.newArchive.wait = s.wait := rfl
@[simp] theorem State.newArchive_freeIndex : s.newArchive.freeIndex = s.freeIndex := rfl

/-! ### advanceEntry -/

@[simp] theorem State.advanceEntry_arg0 : s.advanceEntry.arg0 = s.arg0 := rfl
@[simp] theorem State.advanceEntry_arg1 : s.advanceEntry.arg1 = s.arg1 := rfl
@[simp] theorem State.advanceEntry_arg2 : s.advanceEntry.arg2 = s.arg2 := rfl
@[simp] theorem State.advanceEntry_res0 : s.advanceEntry.res0 = s.res0 := rfl
@[simp] theorem State.advanceEntry_res1 : s.advanceEntry.res1 = s.res1 := rfl
@[simp] theorem State.advanceEntry_res2 : s.advanceEntry.res2 = s.res2 := rfl
@[simp] theorem State.advanceEntry_ovr : s.advanceEntry.ovr = s.ovr := rfl
@[simp] theorem State.advanceEntry_err : s.advanceEntry.err = s.err := rfl
@[simp] theorem State.advanceEntry_lastop : s.advanceEntry.lastop = s.lastop := rfl
@[simp] theorem State.advanceEntry_mtState : s.advanceEntry.mtState = s.mtState := rfl
@[simp] theorem State.advanceEntry_mtCursor : s.advanceEntry.mtCursor = s.mtCursor := rfl
@[simp] theorem State.advanceEntry_bf : s.advanceEntry.bf = s.bf := rfl
@[simp] theorem State.advanceEntry_bfValid : s.advanceEntry.bfValid = s.bfValid := rfl
@[simp] theorem State.advanceEntry_bfOwnerArc : s.advanceEntry.bfOwnerArc = s.bfOwnerArc := rfl
@[simp] theorem State.advanceEntry_bfKeylen : s.advanceEntry.bfKeylen = s.bfKeylen := rfl
@[simp] theorem State.advanceEntry_tocSeed : s.advanceEntry.tocSeed = s.tocSeed := rfl
@[simp] theorem State.advanceEntry_tocValid : s.advanceEntry.tocValid = s.tocValid := rfl
@[simp] theorem State.advanceEntry_arcState :
    s.advanceEntry.arcState = if s.arcIndex + 1 = s.arcCount then .done else s.arcState := rfl
@[simp] theorem State.advanceEntry_arcCount : s.advanceEntry.arcCount = s.arcCount := rfl
@[simp] theorem State.advanceEntry_arcIndex : s.advanceEntry.arcIndex = s.arcIndex + 1 := rfl
@[simp] theorem State.advanceEntry_arcRows : s.advanceEntry.arcRows = s.arcRows := rfl
@[simp] theorem State.advanceEntry_arcEnc : s.advanceEntry.arcEnc = s.arcEnc := rfl
@[simp] theorem State.advanceEntry_arcKeyseed : s.advanceEntry.arcKeyseed = s.arcKeyseed := rfl
@[simp] theorem State.advanceEntry_arcErr : s.advanceEntry.arcErr = s.arcErr := rfl
@[simp] theorem State.advanceEntry_mem : s.advanceEntry.mem = s.mem := rfl
@[simp] theorem State.advanceEntry_pending : s.advanceEntry.pending = s.pending := rfl
@[simp] theorem State.advanceEntry_params : s.advanceEntry.params = s.params := rfl
@[simp] theorem State.advanceEntry_hostQueue : s.advanceEntry.hostQueue = s.hostQueue := rfl
@[simp] theorem State.advanceEntry_hostReads : s.advanceEntry.hostReads = s.hostReads := rfl
@[simp] theorem State.advanceEntry_latencies : s.advanceEntry.latencies = s.latencies := rfl
@[simp] theorem State.advanceEntry_wait : s.advanceEntry.wait = s.wait := rfl
@[simp] theorem State.advanceEntry_freeIndex : s.advanceEntry.freeIndex = s.freeIndex := rfl

/-! ### keyEntry -/

@[simp] theorem State.keyEntry_arg0 : s.keyEntry.arg0 = s.arg0 := rfl
@[simp] theorem State.keyEntry_arg1 : s.keyEntry.arg1 = s.arg1 := rfl
@[simp] theorem State.keyEntry_arg2 : s.keyEntry.arg2 = s.arg2 := rfl
@[simp] theorem State.keyEntry_res0 : s.keyEntry.res0 = 0 := rfl
@[simp] theorem State.keyEntry_res1 : s.keyEntry.res1 = 11 := rfl
@[simp] theorem State.keyEntry_res2 : s.keyEntry.res2 = s.arcIndex := rfl
@[simp] theorem State.keyEntry_ovr : s.keyEntry.ovr = s.ovr := rfl
@[simp] theorem State.keyEntry_err : s.keyEntry.err = s.err := rfl
@[simp] theorem State.keyEntry_lastop : s.keyEntry.lastop = s.lastop := rfl
@[simp] theorem State.keyEntry_mtState : s.keyEntry.mtState = s.mtState := rfl
@[simp] theorem State.keyEntry_mtCursor : s.keyEntry.mtCursor = s.mtCursor := rfl
@[simp] theorem State.keyEntry_bf : s.keyEntry.bf = keySchedule (archiveKey (le32 (s.ebuf 68 4))) := rfl
@[simp] theorem State.keyEntry_bfValid : s.keyEntry.bfValid = true := rfl
@[simp] theorem State.keyEntry_bfOwnerArc : s.keyEntry.bfOwnerArc = true := rfl
@[simp] theorem State.keyEntry_bfKeylen : s.keyEntry.bfKeylen = 4 := rfl
@[simp] theorem State.keyEntry_tocSeed : s.keyEntry.tocSeed = s.tocSeed := rfl
@[simp] theorem State.keyEntry_tocValid : s.keyEntry.tocValid = s.tocValid := rfl
@[simp] theorem State.keyEntry_arcState : s.keyEntry.arcState = s.arcState := rfl
@[simp] theorem State.keyEntry_arcCount : s.keyEntry.arcCount = s.arcCount := rfl
@[simp] theorem State.keyEntry_arcIndex : s.keyEntry.arcIndex = s.arcIndex := rfl
@[simp] theorem State.keyEntry_arcRows : s.keyEntry.arcRows = s.arcRows := rfl
@[simp] theorem State.keyEntry_arcEnc : s.keyEntry.arcEnc = true := rfl
@[simp] theorem State.keyEntry_arcKeyseed : s.keyEntry.arcKeyseed = le32 (s.ebuf 68 4) := rfl
@[simp] theorem State.keyEntry_arcErr : s.keyEntry.arcErr = s.arcErr := rfl
@[simp] theorem State.keyEntry_mem : s.keyEntry.mem = s.mem := rfl
@[simp] theorem State.keyEntry_pending : s.keyEntry.pending = s.pending := rfl
@[simp] theorem State.keyEntry_params : s.keyEntry.params = s.params := rfl
@[simp] theorem State.keyEntry_hostQueue : s.keyEntry.hostQueue = s.hostQueue := rfl
@[simp] theorem State.keyEntry_hostReads : s.keyEntry.hostReads = s.hostReads := rfl
@[simp] theorem State.keyEntry_latencies : s.keyEntry.latencies = s.latencies := rfl
@[simp] theorem State.keyEntry_wait : s.keyEntry.wait = s.wait := rfl
@[simp] theorem State.keyEntry_freeIndex : s.keyEntry.freeIndex = s.freeIndex := rfl

/-! ### emitRow -/

@[simp] theorem State.emitRow_arg0 : s.emitRow.arg0 = s.arg0 := rfl
@[simp] theorem State.emitRow_arg1 : s.emitRow.arg1 = s.arg1 := rfl
@[simp] theorem State.emitRow_arg2 : s.emitRow.arg2 = s.arg2 := rfl
@[simp] theorem State.emitRow_res0 : s.emitRow.res0 = 1 := rfl
@[simp] theorem State.emitRow_res1 : s.emitRow.res1 = BitVec.ofNat 32 (trimLen (s.ebuf 0 64)) := rfl
@[simp] theorem State.emitRow_res2 : s.emitRow.res2 = s.arcIndex := rfl
@[simp] theorem State.emitRow_ovr : s.emitRow.ovr = s.ovr := rfl
@[simp] theorem State.emitRow_err : s.emitRow.err = s.err := rfl
@[simp] theorem State.emitRow_lastop : s.emitRow.lastop = s.lastop := rfl
@[simp] theorem State.emitRow_mtState : s.emitRow.mtState = s.mtState := rfl
@[simp] theorem State.emitRow_mtCursor : s.emitRow.mtCursor = s.mtCursor := rfl
@[simp] theorem State.emitRow_bf : s.emitRow.bf = s.bf := rfl
@[simp] theorem State.emitRow_bfValid : s.emitRow.bfValid = s.bfValid := rfl
@[simp] theorem State.emitRow_bfOwnerArc : s.emitRow.bfOwnerArc = s.bfOwnerArc := rfl
@[simp] theorem State.emitRow_bfKeylen : s.emitRow.bfKeylen = s.bfKeylen := rfl
@[simp] theorem State.emitRow_tocSeed : s.emitRow.tocSeed = s.tocSeed := rfl
@[simp] theorem State.emitRow_tocValid : s.emitRow.tocValid = s.tocValid := rfl
@[simp] theorem State.emitRow_arcState : s.emitRow.arcState = s.arcState := rfl
@[simp] theorem State.emitRow_arcCount : s.emitRow.arcCount = s.arcCount := rfl
@[simp] theorem State.emitRow_arcIndex : s.emitRow.arcIndex = s.arcIndex := rfl
@[simp] theorem State.emitRow_arcRows : s.emitRow.arcRows = s.arcRows + 1 := rfl
@[simp] theorem State.emitRow_arcEnc : s.emitRow.arcEnc = s.arcEnc := rfl
@[simp] theorem State.emitRow_arcKeyseed : s.emitRow.arcKeyseed = s.arcKeyseed := rfl
@[simp] theorem State.emitRow_arcErr : s.emitRow.arcErr = s.arcErr := rfl
@[simp] theorem State.emitRow_mem : s.emitRow.mem = s.mem := rfl
@[simp] theorem State.emitRow_pending : s.emitRow.pending = s.pending := rfl
@[simp] theorem State.emitRow_params : s.emitRow.params = s.params := rfl
@[simp] theorem State.emitRow_hostQueue : s.emitRow.hostQueue = s.hostQueue := rfl
@[simp] theorem State.emitRow_hostReads : s.emitRow.hostReads = s.hostReads := rfl
@[simp] theorem State.emitRow_latencies : s.emitRow.latencies = s.latencies := rfl
@[simp] theorem State.emitRow_wait : s.emitRow.wait = s.wait := rfl
@[simp] theorem State.emitRow_freeIndex : s.emitRow.freeIndex = s.freeIndex := rfl

/-! ### decryptRecord -/

@[simp] theorem State.decryptRecord_arg0 : s.decryptRecord.arg0 = s.arg0 := rfl
@[simp] theorem State.decryptRecord_arg1 : s.decryptRecord.arg1 = s.arg1 := rfl
@[simp] theorem State.decryptRecord_arg2 : s.decryptRecord.arg2 = s.arg2 := rfl
@[simp] theorem State.decryptRecord_res0 : s.decryptRecord.res0 = s.res0 := rfl
@[simp] theorem State.decryptRecord_res1 : s.decryptRecord.res1 = s.res1 := rfl
@[simp] theorem State.decryptRecord_res2 : s.decryptRecord.res2 = s.res2 := rfl
@[simp] theorem State.decryptRecord_ovr : s.decryptRecord.ovr = s.ovr := rfl
@[simp] theorem State.decryptRecord_err : s.decryptRecord.err = s.err := rfl
@[simp] theorem State.decryptRecord_lastop : s.decryptRecord.lastop = s.lastop := rfl
@[simp] theorem State.decryptRecord_mtState : s.decryptRecord.mtState = s.mtState := rfl
@[simp] theorem State.decryptRecord_mtCursor : s.decryptRecord.mtCursor = s.mtCursor := rfl
@[simp] theorem State.decryptRecord_bf : s.decryptRecord.bf = s.bf := rfl
@[simp] theorem State.decryptRecord_bfValid : s.decryptRecord.bfValid = s.bfValid := rfl
@[simp] theorem State.decryptRecord_bfOwnerArc : s.decryptRecord.bfOwnerArc = s.bfOwnerArc := rfl
@[simp] theorem State.decryptRecord_bfKeylen : s.decryptRecord.bfKeylen = s.bfKeylen := rfl
@[simp] theorem State.decryptRecord_tocSeed : s.decryptRecord.tocSeed = s.tocSeed := rfl
@[simp] theorem State.decryptRecord_tocValid : s.decryptRecord.tocValid = s.tocValid := rfl
@[simp] theorem State.decryptRecord_arcState : s.decryptRecord.arcState = s.arcState := rfl
@[simp] theorem State.decryptRecord_arcCount : s.decryptRecord.arcCount = s.arcCount := rfl
@[simp] theorem State.decryptRecord_arcIndex : s.decryptRecord.arcIndex = s.arcIndex := rfl
@[simp] theorem State.decryptRecord_arcRows : s.decryptRecord.arcRows = s.arcRows := rfl
@[simp] theorem State.decryptRecord_arcEnc : s.decryptRecord.arcEnc = s.arcEnc := rfl
@[simp] theorem State.decryptRecord_arcKeyseed : s.decryptRecord.arcKeyseed = s.arcKeyseed := rfl
@[simp] theorem State.decryptRecord_arcErr : s.decryptRecord.arcErr = s.arcErr := rfl
@[simp] theorem State.decryptRecord_mem :
    s.decryptRecord.mem = ((s.mem.writeBytes (Config.ebufBase + 0) (transform (s.ebuf 0 64) (perEntryKey s.tocSeed s.arcIndex)).1).writeBytes
      (Config.ebufBase + 64) (metaDecrypt s.bf (s.ebuf 64 8) s.arcIndex)) := rfl
@[simp] theorem State.decryptRecord_pending : s.decryptRecord.pending = s.pending := rfl
@[simp] theorem State.decryptRecord_params : s.decryptRecord.params = s.params := rfl
@[simp] theorem State.decryptRecord_hostQueue : s.decryptRecord.hostQueue = s.hostQueue := rfl
@[simp] theorem State.decryptRecord_hostReads : s.decryptRecord.hostReads = s.hostReads := rfl
@[simp] theorem State.decryptRecord_latencies : s.decryptRecord.latencies = s.latencies := rfl
@[simp] theorem State.decryptRecord_wait : s.decryptRecord.wait = s.wait := rfl
@[simp] theorem State.decryptRecord_freeIndex : s.decryptRecord.freeIndex = s.freeIndex := rfl

/-! ### coreReset -/

@[simp] theorem State.coreReset_arg0 : s.coreReset.arg0 = 0 := rfl
@[simp] theorem State.coreReset_arg1 : s.coreReset.arg1 = 0 := rfl
@[simp] theorem State.coreReset_arg2 : s.coreReset.arg2 = 0 := rfl
@[simp] theorem State.coreReset_res0 : s.coreReset.res0 = 0 := rfl
@[simp] theorem State.coreReset_res1 : s.coreReset.res1 = 0 := rfl
@[simp] theorem State.coreReset_res2 : s.coreReset.res2 = 0 := rfl
@[simp] theorem State.coreReset_ovr : s.coreReset.ovr = false := rfl
@[simp] theorem State.coreReset_err : s.coreReset.err = s.err := rfl
@[simp] theorem State.coreReset_lastop : s.coreReset.lastop = s.lastop := rfl
@[simp] theorem State.coreReset_mtState : s.coreReset.mtState = s.mtState := rfl
@[simp] theorem State.coreReset_mtCursor : s.coreReset.mtCursor = 625 := rfl
@[simp] theorem State.coreReset_bf : s.coreReset.bf = s.bf := rfl
@[simp] theorem State.coreReset_bfValid : s.coreReset.bfValid = false := rfl
@[simp] theorem State.coreReset_bfOwnerArc : s.coreReset.bfOwnerArc = false := rfl
@[simp] theorem State.coreReset_bfKeylen : s.coreReset.bfKeylen = 0 := rfl
@[simp] theorem State.coreReset_tocSeed : s.coreReset.tocSeed = 0 := rfl
@[simp] theorem State.coreReset_tocValid : s.coreReset.tocValid = false := rfl
@[simp] theorem State.coreReset_arcState : s.coreReset.arcState = .idle := rfl
@[simp] theorem State.coreReset_arcCount : s.coreReset.arcCount = 0 := rfl
@[simp] theorem State.coreReset_arcIndex : s.coreReset.arcIndex = 0 := rfl
@[simp] theorem State.coreReset_arcRows : s.coreReset.arcRows = 0 := rfl
@[simp] theorem State.coreReset_arcEnc : s.coreReset.arcEnc = false := rfl
@[simp] theorem State.coreReset_arcKeyseed : s.coreReset.arcKeyseed = 0 := rfl
@[simp] theorem State.coreReset_arcErr : s.coreReset.arcErr = .ok := rfl
@[simp] theorem State.coreReset_mem : s.coreReset.mem = s.mem := rfl
@[simp] theorem State.coreReset_pending : s.coreReset.pending = s.pending := rfl
@[simp] theorem State.coreReset_params : s.coreReset.params = s.params := rfl
@[simp] theorem State.coreReset_hostQueue : s.coreReset.hostQueue = s.hostQueue := rfl
@[simp] theorem State.coreReset_hostReads : s.coreReset.hostReads = s.hostReads := rfl
@[simp] theorem State.coreReset_latencies : s.coreReset.latencies = s.latencies := rfl
@[simp] theorem State.coreReset_wait : s.coreReset.wait = s.wait := rfl
@[simp] theorem State.coreReset_freeIndex : s.coreReset.freeIndex = s.freeIndex := rfl

/-! ### issue -/

@[simp] theorem State.issue_arg0 (v : Word) : (s.issue v).arg0 = s.arg0 := rfl
@[simp] theorem State.issue_arg1 (v : Word) : (s.issue v).arg1 = s.arg1 := rfl
@[simp] theorem State.issue_arg2 (v : Word) : (s.issue v).arg2 = s.arg2 := rfl
@[simp] theorem State.issue_res0 (v : Word) : (s.issue v).res0 = s.res0 := rfl
@[simp] theorem State.issue_res1 (v : Word) : (s.issue v).res1 = s.res1 := rfl
@[simp] theorem State.issue_res2 (v : Word) : (s.issue v).res2 = s.res2 := rfl
@[simp] theorem State.issue_ovr (v : Word) : (s.issue v).ovr = s.ovr := rfl
@[simp] theorem State.issue_err (v : Word) : (s.issue v).err = s.err := rfl
@[simp] theorem State.issue_lastop (v : Word) : (s.issue v).lastop = s.lastop := rfl
@[simp] theorem State.issue_mtState (v : Word) : (s.issue v).mtState = s.mtState := rfl
@[simp] theorem State.issue_mtCursor (v : Word) : (s.issue v).mtCursor = s.mtCursor := rfl
@[simp] theorem State.issue_bf (v : Word) : (s.issue v).bf = s.bf := rfl
@[simp] theorem State.issue_bfValid (v : Word) : (s.issue v).bfValid = s.bfValid := rfl
@[simp] theorem State.issue_bfOwnerArc (v : Word) : (s.issue v).bfOwnerArc = s.bfOwnerArc := rfl
@[simp] theorem State.issue_bfKeylen (v : Word) : (s.issue v).bfKeylen = s.bfKeylen := rfl
@[simp] theorem State.issue_tocSeed (v : Word) : (s.issue v).tocSeed = s.tocSeed := rfl
@[simp] theorem State.issue_tocValid (v : Word) : (s.issue v).tocValid = s.tocValid := rfl
@[simp] theorem State.issue_arcState (v : Word) : (s.issue v).arcState = s.arcState := rfl
@[simp] theorem State.issue_arcCount (v : Word) : (s.issue v).arcCount = s.arcCount := rfl
@[simp] theorem State.issue_arcIndex (v : Word) : (s.issue v).arcIndex = s.arcIndex := rfl
@[simp] theorem State.issue_arcRows (v : Word) : (s.issue v).arcRows = s.arcRows := rfl
@[simp] theorem State.issue_arcEnc (v : Word) : (s.issue v).arcEnc = s.arcEnc := rfl
@[simp] theorem State.issue_arcKeyseed (v : Word) : (s.issue v).arcKeyseed = s.arcKeyseed := rfl
@[simp] theorem State.issue_arcErr (v : Word) : (s.issue v).arcErr = s.arcErr := rfl
@[simp] theorem State.issue_mem (v : Word) : (s.issue v).mem = s.mem := rfl
@[simp] theorem State.issue_pending (v : Word) : (s.issue v).pending = some v := rfl
@[simp] theorem State.issue_params (v : Word) : (s.issue v).params = s.params := rfl
@[simp] theorem State.issue_hostQueue (v : Word) : (s.issue v).hostQueue = s.hostQueue := rfl
@[simp] theorem State.issue_hostReads (v : Word) : (s.issue v).hostReads = s.hostReads := rfl
@[simp] theorem State.issue_latencies (v : Word) : (s.issue v).latencies = s.latencies.tail := rfl
@[simp] theorem State.issue_wait (v : Word) : (s.issue v).wait = s.latencies.headD 0 := rfl
@[simp] theorem State.issue_freeIndex (v : Word) : (s.issue v).freeIndex = s.freeIndex := rfl

/-! ### withQueue -/

@[simp] theorem State.withQueue_arg0 (q : List HostOp) : (s.withQueue q).arg0 = s.arg0 := rfl
@[simp] theorem State.withQueue_arg1 (q : List HostOp) : (s.withQueue q).arg1 = s.arg1 := rfl
@[simp] theorem State.withQueue_arg2 (q : List HostOp) : (s.withQueue q).arg2 = s.arg2 := rfl
@[simp] theorem State.withQueue_res0 (q : List HostOp) : (s.withQueue q).res0 = s.res0 := rfl
@[simp] theorem State.withQueue_res1 (q : List HostOp) : (s.withQueue q).res1 = s.res1 := rfl
@[simp] theorem State.withQueue_res2 (q : List HostOp) : (s.withQueue q).res2 = s.res2 := rfl
@[simp] theorem State.withQueue_ovr (q : List HostOp) : (s.withQueue q).ovr = s.ovr := rfl
@[simp] theorem State.withQueue_err (q : List HostOp) : (s.withQueue q).err = s.err := rfl
@[simp] theorem State.withQueue_lastop (q : List HostOp) : (s.withQueue q).lastop = s.lastop := rfl
@[simp] theorem State.withQueue_mtState (q : List HostOp) : (s.withQueue q).mtState = s.mtState := rfl
@[simp] theorem State.withQueue_mtCursor (q : List HostOp) : (s.withQueue q).mtCursor = s.mtCursor := rfl
@[simp] theorem State.withQueue_bf (q : List HostOp) : (s.withQueue q).bf = s.bf := rfl
@[simp] theorem State.withQueue_bfValid (q : List HostOp) : (s.withQueue q).bfValid = s.bfValid := rfl
@[simp] theorem State.withQueue_bfOwnerArc (q : List HostOp) : (s.withQueue q).bfOwnerArc = s.bfOwnerArc := rfl
@[simp] theorem State.withQueue_bfKeylen (q : List HostOp) : (s.withQueue q).bfKeylen = s.bfKeylen := rfl
@[simp] theorem State.withQueue_tocSeed (q : List HostOp) : (s.withQueue q).tocSeed = s.tocSeed := rfl
@[simp] theorem State.withQueue_tocValid (q : List HostOp) : (s.withQueue q).tocValid = s.tocValid := rfl
@[simp] theorem State.withQueue_arcState (q : List HostOp) : (s.withQueue q).arcState = s.arcState := rfl
@[simp] theorem State.withQueue_arcCount (q : List HostOp) : (s.withQueue q).arcCount = s.arcCount := rfl
@[simp] theorem State.withQueue_arcIndex (q : List HostOp) : (s.withQueue q).arcIndex = s.arcIndex := rfl
@[simp] theorem State.withQueue_arcRows (q : List HostOp) : (s.withQueue q).arcRows = s.arcRows := rfl
@[simp] theorem State.withQueue_arcEnc (q : List HostOp) : (s.withQueue q).arcEnc = s.arcEnc := rfl
@[simp] theorem State.withQueue_arcKeyseed (q : List HostOp) : (s.withQueue q).arcKeyseed = s.arcKeyseed := rfl
@[simp] theorem State.withQueue_arcErr (q : List HostOp) : (s.withQueue q).arcErr = s.arcErr := rfl
@[simp] theorem State.withQueue_mem (q : List HostOp) : (s.withQueue q).mem = s.mem := rfl
@[simp] theorem State.withQueue_pending (q : List HostOp) : (s.withQueue q).pending = s.pending := rfl
@[simp] theorem State.withQueue_params (q : List HostOp) : (s.withQueue q).params = s.params := rfl
@[simp] theorem State.withQueue_hostQueue (q : List HostOp) : (s.withQueue q).hostQueue = q := rfl
@[simp] theorem State.withQueue_hostReads (q : List HostOp) : (s.withQueue q).hostReads = s.hostReads := rfl
@[simp] theorem State.withQueue_latencies (q : List HostOp) : (s.withQueue q).latencies = s.latencies := rfl
@[simp] theorem State.withQueue_wait (q : List HostOp) : (s.withQueue q).wait = s.wait := rfl
@[simp] theorem State.withQueue_freeIndex (q : List HostOp) : (s.withQueue q).freeIndex = s.freeIndex := rfl

/-! ### logRead -/

@[simp] theorem State.logRead_arg0 (v : Word) : (s.logRead v).arg0 = s.arg0 := rfl
@[simp] theorem State.logRead_arg1 (v : Word) : (s.logRead v).arg1 = s.arg1 := rfl
@[simp] theorem State.logRead_arg2 (v : Word) : (s.logRead v).arg2 = s.arg2 := rfl
@[simp] theorem State.logRead_res0 (v : Word) : (s.logRead v).res0 = s.res0 := rfl
@[simp] theorem State.logRead_res1 (v : Word) : (s.logRead v).res1 = s.res1 := rfl
@[simp] theorem State.logRead_res2 (v : Word) : (s.logRead v).res2 = s.res2 := rfl
@[simp] theorem State.logRead_ovr (v : Word) : (s.logRead v).ovr = s.ovr := rfl
@[simp] theorem State.logRead_err (v : Word) : (s.logRead v).err = s.err := rfl
@[simp] theorem State.logRead_lastop (v : Word) : (s.logRead v).lastop = s.lastop := rfl
@[simp] theorem State.logRead_mtState (v : Word) : (s.logRead v).mtState = s.mtState := rfl
@[simp] theorem State.logRead_mtCursor (v : Word) : (s.logRead v).mtCursor = s.mtCursor := rfl
@[simp] theorem State.logRead_bf (v : Word) : (s.logRead v).bf = s.bf := rfl
@[simp] theorem State.logRead_bfValid (v : Word) : (s.logRead v).bfValid = s.bfValid := rfl
@[simp] theorem State.logRead_bfOwnerArc (v : Word) : (s.logRead v).bfOwnerArc = s.bfOwnerArc := rfl
@[simp] theorem State.logRead_bfKeylen (v : Word) : (s.logRead v).bfKeylen = s.bfKeylen := rfl
@[simp] theorem State.logRead_tocSeed (v : Word) : (s.logRead v).tocSeed = s.tocSeed := rfl
@[simp] theorem State.logRead_tocValid (v : Word) : (s.logRead v).tocValid = s.tocValid := rfl
@[simp] theorem State.logRead_arcState (v : Word) : (s.logRead v).arcState = s.arcState := rfl
@[simp] theorem State.logRead_arcCount (v : Word) : (s.logRead v).arcCount = s.arcCount := rfl
@[simp] theorem State.logRead_arcIndex (v : Word) : (s.logRead v).arcIndex = s.arcIndex := rfl
@[simp] theorem State.logRead_arcRows (v : Word) : (s.logRead v).arcRows = s.arcRows := rfl
@[simp] theorem State.logRead_arcEnc (v : Word) : (s.logRead v).arcEnc = s.arcEnc := rfl
@[simp] theorem State.logRead_arcKeyseed (v : Word) : (s.logRead v).arcKeyseed = s.arcKeyseed := rfl
@[simp] theorem State.logRead_arcErr (v : Word) : (s.logRead v).arcErr = s.arcErr := rfl
@[simp] theorem State.logRead_mem (v : Word) : (s.logRead v).mem = s.mem := rfl
@[simp] theorem State.logRead_pending (v : Word) : (s.logRead v).pending = s.pending := rfl
@[simp] theorem State.logRead_params (v : Word) : (s.logRead v).params = s.params := rfl
@[simp] theorem State.logRead_hostQueue (v : Word) : (s.logRead v).hostQueue = s.hostQueue := rfl
@[simp] theorem State.logRead_hostReads (v : Word) : (s.logRead v).hostReads = v :: s.hostReads := rfl
@[simp] theorem State.logRead_latencies (v : Word) : (s.logRead v).latencies = s.latencies := rfl
@[simp] theorem State.logRead_wait (v : Word) : (s.logRead v).wait = s.wait := rfl
@[simp] theorem State.logRead_freeIndex (v : Word) : (s.logRead v).freeIndex = s.freeIndex := rfl

/-! ### nextFree -/

@[simp] theorem State.nextFree_arg0 : s.nextFree.arg0 = s.arg0 := rfl
@[simp] theorem State.nextFree_arg1 : s.nextFree.arg1 = s.arg1 := rfl
@[simp] theorem State.nextFree_arg2 : s.nextFree.arg2 = s.arg2 := rfl
@[simp] theorem State.nextFree_res0 : s.nextFree.res0 = s.res0 := rfl
@[simp] theorem State.nextFree_res1 : s.nextFree.res1 = s.res1 := rfl
@[simp] theorem State.nextFree_res2 : s.nextFree.res2 = s.res2 := rfl
@[simp] theorem State.nextFree_ovr : s.nextFree.ovr = s.ovr := rfl
@[simp] theorem State.nextFree_err : s.nextFree.err = s.err := rfl
@[simp] theorem State.nextFree_lastop : s.nextFree.lastop = s.lastop := rfl
@[simp] theorem State.nextFree_mtState : s.nextFree.mtState = s.mtState := rfl
@[simp] theorem State.nextFree_mtCursor : s.nextFree.mtCursor = s.mtCursor := rfl
@[simp] theorem State.nextFree_bf : s.nextFree.bf = s.bf := rfl
@[simp] theorem State.nextFree_bfValid : s.nextFree.bfValid = s.bfValid := rfl
@[simp] theorem State.nextFree_bfOwnerArc : s.nextFree.bfOwnerArc = s.bfOwnerArc := rfl
@[simp] theorem State.nextFree_bfKeylen : s.nextFree.bfKeylen = s.bfKeylen := rfl
@[simp] theorem State.nextFree_tocSeed : s.nextFree.tocSeed = s.tocSeed := rfl
@[simp] theorem State.nextFree_tocValid : s.nextFree.tocValid = s.tocValid := rfl
@[simp] theorem State.nextFree_arcState : s.nextFree.arcState = s.arcState := rfl
@[simp] theorem State.nextFree_arcCount : s.nextFree.arcCount = s.arcCount := rfl
@[simp] theorem State.nextFree_arcIndex : s.nextFree.arcIndex = s.arcIndex := rfl
@[simp] theorem State.nextFree_arcRows : s.nextFree.arcRows = s.arcRows := rfl
@[simp] theorem State.nextFree_arcEnc : s.nextFree.arcEnc = s.arcEnc := rfl
@[simp] theorem State.nextFree_arcKeyseed : s.nextFree.arcKeyseed = s.arcKeyseed := rfl
@[simp] theorem State.nextFree_arcErr : s.nextFree.arcErr = s.arcErr := rfl
@[simp] theorem State.nextFree_mem : s.nextFree.mem = s.mem := rfl
@[simp] theorem State.nextFree_pending : s.nextFree.pending = s.pending := rfl
@[simp] theorem State.nextFree_params : s.nextFree.params = s.params := rfl
@[simp] theorem State.nextFree_hostQueue : s.nextFree.hostQueue = s.hostQueue := rfl
@[simp] theorem State.nextFree_hostReads : s.nextFree.hostReads = s.hostReads := rfl
@[simp] theorem State.nextFree_latencies : s.nextFree.latencies = s.latencies := rfl
@[simp] theorem State.nextFree_wait : s.nextFree.wait = s.wait := rfl
@[simp] theorem State.nextFree_freeIndex : s.nextFree.freeIndex = s.freeIndex + 1 := rfl

/-! ### tick -/

@[simp] theorem State.tick_arg0 : s.tick.arg0 = s.arg0 := rfl
@[simp] theorem State.tick_arg1 : s.tick.arg1 = s.arg1 := rfl
@[simp] theorem State.tick_arg2 : s.tick.arg2 = s.arg2 := rfl
@[simp] theorem State.tick_res0 : s.tick.res0 = s.res0 := rfl
@[simp] theorem State.tick_res1 : s.tick.res1 = s.res1 := rfl
@[simp] theorem State.tick_res2 : s.tick.res2 = s.res2 := rfl
@[simp] theorem State.tick_ovr : s.tick.ovr = s.ovr := rfl
@[simp] theorem State.tick_err : s.tick.err = s.err := rfl
@[simp] theorem State.tick_lastop : s.tick.lastop = s.lastop := rfl
@[simp] theorem State.tick_mtState : s.tick.mtState = s.mtState := rfl
@[simp] theorem State.tick_mtCursor : s.tick.mtCursor = s.mtCursor := rfl
@[simp] theorem State.tick_bf : s.tick.bf = s.bf := rfl
@[simp] theorem State.tick_bfValid : s.tick.bfValid = s.bfValid := rfl
@[simp] theorem State.tick_bfOwnerArc : s.tick.bfOwnerArc = s.bfOwnerArc := rfl
@[simp] theorem State.tick_bfKeylen : s.tick.bfKeylen = s.bfKeylen := rfl
@[simp] theorem State.tick_tocSeed : s.tick.tocSeed = s.tocSeed := rfl
@[simp] theorem State.tick_tocValid : s.tick.tocValid = s.tocValid := rfl
@[simp] theorem State.tick_arcState : s.tick.arcState = s.arcState := rfl
@[simp] theorem State.tick_arcCount : s.tick.arcCount = s.arcCount := rfl
@[simp] theorem State.tick_arcIndex : s.tick.arcIndex = s.arcIndex := rfl
@[simp] theorem State.tick_arcRows : s.tick.arcRows = s.arcRows := rfl
@[simp] theorem State.tick_arcEnc : s.tick.arcEnc = s.arcEnc := rfl
@[simp] theorem State.tick_arcKeyseed : s.tick.arcKeyseed = s.arcKeyseed := rfl
@[simp] theorem State.tick_arcErr : s.tick.arcErr = s.arcErr := rfl
@[simp] theorem State.tick_mem : s.tick.mem = s.mem := rfl
@[simp] theorem State.tick_pending : s.tick.pending = s.pending := rfl
@[simp] theorem State.tick_params : s.tick.params = s.params := rfl
@[simp] theorem State.tick_hostQueue : s.tick.hostQueue = s.hostQueue := rfl
@[simp] theorem State.tick_hostReads : s.tick.hostReads = s.hostReads := rfl
@[simp] theorem State.tick_latencies : s.tick.latencies = s.latencies := rfl
@[simp] theorem State.tick_wait : s.tick.wait = s.wait - 1 := rfl
@[simp] theorem State.tick_freeIndex : s.tick.freeIndex = s.freeIndex := rfl

/-! ### overrun -/

@[simp] theorem State.overrun_arg0 : s.overrun.arg0 = s.arg0 := rfl
@[simp] theorem State.overrun_arg1 : s.overrun.arg1 = s.arg1 := rfl
@[simp] theorem State.overrun_arg2 : s.overrun.arg2 = s.arg2 := rfl
@[simp] theorem State.overrun_res0 : s.overrun.res0 = s.res0 := rfl
@[simp] theorem State.overrun_res1 : s.overrun.res1 = s.res1 := rfl
@[simp] theorem State.overrun_res2 : s.overrun.res2 = s.res2 := rfl
@[simp] theorem State.overrun_ovr : s.overrun.ovr = true := rfl
@[simp] theorem State.overrun_err : s.overrun.err = s.err := rfl
@[simp] theorem State.overrun_lastop : s.overrun.lastop = s.lastop := rfl
@[simp] theorem State.overrun_mtState : s.overrun.mtState = s.mtState := rfl
@[simp] theorem State.overrun_mtCursor : s.overrun.mtCursor = s.mtCursor := rfl
@[simp] theorem State.overrun_bf : s.overrun.bf = s.bf := rfl
@[simp] theorem State.overrun_bfValid : s.overrun.bfValid = s.bfValid := rfl
@[simp] theorem State.overrun_bfOwnerArc : s.overrun.bfOwnerArc = s.bfOwnerArc := rfl
@[simp] theorem State.overrun_bfKeylen : s.overrun.bfKeylen = s.bfKeylen := rfl
@[simp] theorem State.overrun_tocSeed : s.overrun.tocSeed = s.tocSeed := rfl
@[simp] theorem State.overrun_tocValid : s.overrun.tocValid = s.tocValid := rfl
@[simp] theorem State.overrun_arcState : s.overrun.arcState = s.arcState := rfl
@[simp] theorem State.overrun_arcCount : s.overrun.arcCount = s.arcCount := rfl
@[simp] theorem State.overrun_arcIndex : s.overrun.arcIndex = s.arcIndex := rfl
@[simp] theorem State.overrun_arcRows : s.overrun.arcRows = s.arcRows := rfl
@[simp] theorem State.overrun_arcEnc : s.overrun.arcEnc = s.arcEnc := rfl
@[simp] theorem State.overrun_arcKeyseed : s.overrun.arcKeyseed = s.arcKeyseed := rfl
@[simp] theorem State.overrun_arcErr : s.overrun.arcErr = s.arcErr := rfl
@[simp] theorem State.overrun_mem : s.overrun.mem = s.mem := rfl
@[simp] theorem State.overrun_pending : s.overrun.pending = s.pending := rfl
@[simp] theorem State.overrun_params : s.overrun.params = s.params := rfl
@[simp] theorem State.overrun_hostQueue : s.overrun.hostQueue = s.hostQueue := rfl
@[simp] theorem State.overrun_hostReads : s.overrun.hostReads = s.hostReads := rfl
@[simp] theorem State.overrun_latencies : s.overrun.latencies = s.latencies := rfl
@[simp] theorem State.overrun_wait : s.overrun.wait = s.wait := rfl
@[simp] theorem State.overrun_freeIndex : s.overrun.freeIndex = s.freeIndex := rfl

end Sys2Proof.Machine
end

