-- ==== Sys2Proof/Laws/Operands.lean ====
section
/-! SUPPORT. The operand checks as the inequalities they are, and what the buffers hold after a store. -/

namespace Sys2Proof.Machine

/-! ### Operand checks -/

theorem keyLengthOk_eq_false (n : Nat) : keyLengthOk n = false ↔ n < 1 ∨ 56 < n := by
  simp only [keyLengthOk, Bool.and_eq_false_iff, decide_eq_false_iff_not]
  unfold Config.bfKeyMax
  omega

theorem dataLengthOk_eq_false (n : Nat) : dataLengthOk n = false ↔ 256 < n ∨ n % 8 ≠ 0 := by
  simp only [dataLengthOk, Bool.and_eq_false_iff, decide_eq_false_iff_not, beq_eq_false_iff_ne]
  unfold Config.dbufBytes
  omega

theorem bufferLengthOk_eq_false (n : Nat) : bufferLengthOk n = false ↔ 256 < n := by
  simp only [bufferLengthOk, decide_eq_false_iff_not]
  unfold Config.dbufBytes
  omega

theorem availableOk_eq_false (n : Nat) : availableOk n = false ↔ 72 < n := by
  simp only [availableOk, decide_eq_false_iff_not]
  unfold Config.entryBytes
  omega

theorem substKeyOk_eq_false (n : Nat) : substKeyOk n = false ↔ 255 < n := by
  simp only [substKeyOk, decide_eq_false_iff_not]
  omega

/-- R172: the supported key types are tags 0 to 3. -/
theorem keyType_unsupported (tag : Word) : (keyTypeOf tag).bind seedOfKeyType = none ↔ 3 < tag.toNat := by
  unfold keyTypeOf
  split <;> simp_all [seedOfKeyType]
  omega

/-! ### Buffers -/

@[simp] theorem State.dbuf_length (s : State) (a n : Nat) : (s.dbuf a n).length = n := by simp [State.dbuf]
@[simp] theorem State.ebuf_length (s : State) (a n : Nat) : (s.ebuf a n).length = n := by simp [State.ebuf]

/-- Reading back what was stored in DBUF. -/
theorem State.dbuf_setDbuf (s : State) (a n : Nat) (b : List Byte) (h : b.length = n) :
    (s.setDbuf a b).dbuf a n = b := by
  subst h
  simp [State.dbuf]

/-- Reading back what was stored in EBUF. -/
theorem State.ebuf_setEbuf (s : State) (a n : Nat) (b : List Byte) (h : b.length = n) :
    (s.setEbuf a b).ebuf a n = b := by
  subst h
  simp [State.ebuf]

/-- A store elsewhere in DBUF. -/
theorem State.dbuf_setDbuf_disjoint (s : State) (a x n : Nat) (b : List Byte)
    (h : x + n ≤ a ∨ a + b.length ≤ x) : (s.setDbuf a b).dbuf x n = s.dbuf x n :=
  Memory.readBytes_writeBytes_disjoint _ _ _ (by omega)

/-- A store elsewhere in EBUF. -/
theorem State.ebuf_setEbuf_disjoint (s : State) (a x n : Nat) (b : List Byte)
    (h : x + n ≤ a ∨ a + b.length ≤ x) : (s.setEbuf a b).ebuf x n = s.ebuf x n :=
  Memory.readBytes_writeBytes_disjoint _ _ _ (by omega)

end Sys2Proof.Machine
end

