-- ==== Sys2Proof/Laws/Blocks.lean ====
section
/-! SUPPORT. The operations over whole byte strings: the lengths they keep, and what a command that transforms the blocks
of DBUF leaves in it. -/

namespace Sys2Proof.Machine

/-! ### Lengths -/

@[simp] theorem encryptBlock_length (k : Schedule) (b : List Byte) : (encryptBlock k b).length = 8 := rfl
@[simp] theorem decryptBlock_length (k : Schedule) (b : List Byte) : (decryptBlock k b).length = 8 := rfl
@[simp] theorem metaDecrypt_length (k : Schedule) (m : List Byte) (i : Word) : (metaDecrypt k m i).length = 8 := rfl
@[simp] theorem archiveKey_length (keyseed : Word) : (archiveKey keyseed).length = 4 := rfl

@[simp] theorem transformFrom_length (k : Nat) (buf : List Byte) : (transformFrom k buf).1.length = buf.length := by
  induction buf generalizing k with
  | nil => rfl
  | cons c rest ih =>
    unfold transformFrom
    split
    · rfl
    · simp [ih]

@[simp] theorem transform_length (buf : List Byte) (k : Byte) : (transform buf k).1.length = buf.length :=
  transformFrom_length _ _

/-- R192: no more bytes are processed than there are. -/
theorem transformFrom_count_le (k : Nat) (buf : List Byte) : (transformFrom k buf).2 ≤ buf.length := by
  induction buf generalizing k with
  | nil => exact Nat.le_refl 0
  | cons c rest ih =>
    unfold transformFrom
    split
    · exact Nat.zero_le _
    · exact Nat.succ_le_succ (ih _)

/-- R222: the trimmed length is at most the field's. -/
theorem trimLen_le (name : List Byte) : trimLen name ≤ name.length := by
  induction name with
  | nil => exact Nat.le_refl 0
  | cons b rest ih =>
    unfold trimLen
    split
    · exact Nat.zero_le _
    · exact Nat.succ_le_succ ih

/-! ### Block after block -/

theorem State.mapBlocks_zero (s : State) (f : List Byte → List Byte) : s.mapBlocks f 0 = s := rfl

theorem State.mapBlocks_succ (s : State) (f : List Byte → List Byte) (n : Nat) :
    s.mapBlocks f (n + 1) = (s.mapBlocks f n).setDbuf (8 * n) (f ((s.mapBlocks f n).dbuf (8 * n) 8)) := by
  simp [State.mapBlocks, Nat.fold]

/-- R140, R141: transforming blocks changes only the byte storage. -/
theorem State.mapBlocks_frame (s : State) (f : List Byte → List Byte) (n : Nat) :
    s.mapBlocks f n = { s with mem := (s.mapBlocks f n).mem } := by
  induction n with
  | zero => rfl
  | succ n ih =>
    rw [State.mapBlocks_succ, State.setDbuf]
    generalize (Memory.writeBytes _ _ _) = m
    rw [ih]

/-- R140, R141: and in it only the n blocks from DBUF[0] on. -/
theorem State.mapBlocks_read_outside (s : State) (f : List Byte → List Byte) (hf : ∀ b, (f b).length = 8) (n : Nat)
    {x : Nat} (h : x < Config.dbufBase ∨ Config.dbufBase + 8 * n ≤ x) :
    (s.mapBlocks f n).mem.read x = s.mem.read x := by
  induction n with
  | zero => rfl
  | succ n ih =>
    rw [State.mapBlocks_succ, State.setDbuf_mem, Memory.read_writeBytes_outside]
    · exact ih (by omega)
    · rw [hf]
      omega

/-- R140, R141: each block is transformed by itself, from what it held before the command. -/
theorem State.mapBlocks_block (s : State) (f : List Byte → List Byte) (hf : ∀ b, (f b).length = 8) (n k : Nat)
    (h : k < n) : (s.mapBlocks f n).dbuf (8 * k) 8 = f (s.dbuf (8 * k) 8) := by
  induction n with
  | zero => omega
  | succ n ih =>
    rw [State.mapBlocks_succ]
    rcases Nat.lt_or_ge k n with hk | hk
    · rw [State.dbuf_setDbuf_disjoint _ _ _ _ _ (.inl (by omega)), ih hk]
    · obtain rfl : k = n := by omega
      rw [State.dbuf_setDbuf _ _ _ _ (hf _)]
      congr 1
      exact Memory.readBytes_congr fun j hj => State.mapBlocks_read_outside s f hf k (.inr (by omega))

/-- Transforming blocks keeps the canonical form. -/
theorem State.mapBlocks_wf (s : State) (f : List Byte → List Byte) (n : Nat) (h : s.mem.wf = true) :
    (s.mapBlocks f n).mem.wf = true := by
  induction n with
  | zero => exact h
  | succ n ih =>
    rw [State.mapBlocks_succ, State.setDbuf_mem]
    exact Memory.writeBytes_wf _ _ _ ih

/-- Transforming blocks of DBUF stays inside the buffers. -/
theorem State.mapBlocks_inBuffers (s : State) (f : List Byte → List Byte) (hf : ∀ b, (f b).length = 8) (n : Nat)
    (hn : 8 * n ≤ Config.dbufBytes) (h : s.mem.inBuffers = true) : (s.mapBlocks f n).mem.inBuffers = true := by
  induction n with
  | zero => exact h
  | succ n ih =>
    rw [State.mapBlocks_succ, State.setDbuf_mem]
    refine Memory.writeBytes_inBuffers _ _ _ (ih (by omega)) ⟨by omega, ?_⟩
    rw [hf]
    simp only [Config.dbufBase, Config.ebufBase, Config.ebufBytes, Config.dbufBytes] at *
    omega

end Sys2Proof.Machine
end

