-- ==== Sys2Proof/Laws/Outcome.lean ====
section
/-! SUPPORT. The shared operations that end a command or an access, each said once: which next state they answer. -/

namespace Sys2Proof.Machine

@[simp] theorem succeed_eq_next (i : Instr) (s t : State) :
    succeed i s = .next t ↔ t = s.complete (opcode i) .ok := by
  constructor
  · intro h
    injection h with h
    exact h.symm
  · intro h
    rw [h]
    rfl

@[simp] theorem raise_eq_next (i : Instr) (e : ErrCode) (s t : State) :
    raise i e s = .next t ↔ t = s.complete (opcode i) e := by
  constructor
  · intro h
    injection h with h
    exact h.symm
  · intro h
    rw [h]
    rfl

@[simp] theorem archiveError_eq_next (i : Instr) (e : ErrCode) (s t : State) :
    archiveError i e s = .next t ↔ t = (s.archiveFatal e).complete (opcode i) e := by
  rw [archiveError, raise_eq_next]

@[simp] theorem completeIllegal_eq_next (w : Word) (s t : State) :
    completeIllegal w s = .next t ↔ t = s.complete (opcField w) .illegalCommand := by
  constructor
  · intro h
    injection h with h
    exact h.symm
  · intro h
    rw [h]
    rfl

/-- A checked access goes on exactly when it is one that R53 defines. -/
theorem checkedAccess_eq_next (addr n : Nat) (k t : State) :
    checkedAccess addr n k = .next t ↔ accessWf addr n = true ∧ t = k := by
  unfold checkedAccess accessWf
  by_cases h1 : n = 4
  · by_cases h2 : addr % 4 = 0
    · by_cases h3 : Config.windowBytes ≤ addr
      · simp [h1, h2, Nat.not_lt.2 h3, h3]
      · simp [h1, h2, Nat.lt_of_not_le h3, h3, eq_comm]
    · simp [h1, h2]
  · simp [h1]

/-- What one event from outside can do, when it goes on. -/
theorem hostOp_cases {op : HostOp} {rest : List HostOp} {s t : State} (h : hostOp op rest s = .next t) :
    (∃ a, op = .read a 4 ∧ accessWf a 4 = true ∧ t = (s.withQueue rest).hostRead a) ∨
      (∃ a v, op = .write a 4 v ∧ accessWf a 4 = true ∧ t = (s.withQueue rest).hostWrite a v) ∨
      (op = .poll ∧ t = s.withQueue (if s.busy = true then .poll :: rest else rest)) ∨
      (op = .hardReset ∧ t = (s.withQueue rest).hardReset) := by
  cases op with
  | read a n =>
    obtain ⟨hw, rfl⟩ := (checkedAccess_eq_next a n _ t).1 h
    have hn : n = 4 := by
      simp only [accessWf, Bool.and_eq_true, beq_iff_eq] at hw
      exact hw.1.1
    subst hn
    exact .inl ⟨a, rfl, hw, rfl⟩
  | write a n v =>
    obtain ⟨hw, rfl⟩ := (checkedAccess_eq_next a n _ t).1 h
    have hn : n = 4 := by
      simp only [accessWf, Bool.and_eq_true, beq_iff_eq] at hw
      exact hw.1.1
    subst hn
    exact .inr (.inl ⟨a, v, rfl, hw, rfl⟩)
  | poll =>
    injection h with h
    exact .inr (.inr (.inl ⟨rfl, h.symm⟩))
  | hardReset =>
    injection h with h
    exact .inr (.inr (.inr ⟨rfl, h.symm⟩))

/-- The state in which an event from outside takes effect: a latched command has waited one more step. -/
def State.ticked (s : State) : State := if s.pending = none then s else s.tick

/-- What a step can be: the latched command's, a latched illegal word's, an idle one's, or an event from outside, before
which a waiting command's latency goes down by 1. -/
theorem step_cases {s t : State} (h : step s = .next t) :
    (∃ w i, s.pending = some w ∧ s.wait = 0 ∧ decodeWord w = .ok i ∧ exec i s = .next t) ∨
      (∃ w e, s.pending = some w ∧ s.wait = 0 ∧ decodeWord w = .error e ∧
        t = s.complete (opcField w) .illegalCommand) ∨
      ((s.pending = none ∨ s.wait ≠ 0) ∧ s.hostQueue = [] ∧ t = s.ticked) ∨
      ∃ op rest, (s.pending = none ∨ s.wait ≠ 0) ∧ s.hostQueue = op :: rest ∧ hostOp op rest s.ticked = .next t := by
  have tick : ∀ (q : State), hostStep q = .next t → (s.pending = none ∨ s.wait ≠ 0) → q = s.ticked →
      q.hostQueue = s.hostQueue →
      ((s.pending = none ∨ s.wait ≠ 0) ∧ s.hostQueue = [] ∧ t = s.ticked) ∨
      ∃ op rest, (s.pending = none ∨ s.wait ≠ 0) ∧ s.hostQueue = op :: rest ∧ hostOp op rest s.ticked = .next t := by
    intro q hq hs he hh
    unfold hostStep at hq
    split at hq
    · rename_i h0
      injection hq with hq
      exact .inl ⟨hs, hh ▸ h0, he ▸ hq.symm⟩
    · rename_i op rest h0
      exact .inr ⟨op, rest, hs, hh ▸ h0, he ▸ hq⟩
  unfold step at h
  split at h
  · rename_i w hw
    split at h
    · rename_i h0
      unfold runPending at h
      split at h
      · rename_i i hi
        exact .inl ⟨w, i, hw, h0, hi, h⟩
      · rename_i e he
        exact .inr (.inl ⟨w, e, hw, h0, he, (completeIllegal_eq_next w s t).1 h⟩)
    · rename_i h0
      exact .inr (.inr (tick s.tick h (.inr h0) (by rw [State.ticked, if_neg (by simp [hw])]) rfl))
  · rename_i hp
    exact .inr (.inr (tick s h (.inl hp) (by rw [State.ticked, if_pos hp]) rfl))

end Sys2Proof.Machine
end

