-- ==== Sys2Proof/Laws/Exec.lean ====
section
/-! SUPPORT. What a command can do, said once for all 21: it raises one of the errors that change nothing, or an archive
error, or it succeeds with its effect.  Proofs about every command cite `exec_cases` and do not unfold a meaning. -/

namespace Sys2Proof.Machine

/-- What a command writes when it succeeds, before its completion. -/
def successEffect (i : Instr) (s : State) : State :=
  match i with
  | .nop => s
  | .mtSeed => s.seeded s.arg0
  | .mtTwist => s.twisted
  | .mtNext =>
    { s.readyForNext with
      mtCursor := Fin.ofNat 626 (s.readyForNext.mtCursor.val + 1), res0 := temper s.readyForNext.cursorWordAt }
  | .mtTemper => { s with res0 := temper s.arg0 }
  | .mtUntemper => { s with res0 := untemper s.arg0 }
  | .mtFirst => { s with res0 := firstOutput s.arg0 }
  | .bfKey => s.withSchedule (s.dbuf 0 s.arg1.toNat) false (s.arg1.setWidth 6)
  | .bfEncb =>
    { s with res0 := (encryptHalves s.bf (s.arg0, s.arg1)).1, res1 := (encryptHalves s.bf (s.arg0, s.arg1)).2 }
  | .bfDecb =>
    { s with res0 := (decryptHalves s.bf (s.arg0, s.arg1)).1, res1 := (decryptHalves s.bf (s.arg0, s.arg1)).2 }
  | .bfEnc => s.mapBlocks (encryptBlock s.bf) (s.arg1.toNat / 8)
  | .bfDec => s.mapBlocks (decryptBlock s.bf) (s.arg1.toNat / 8)
  | .seedDerive =>
    match (keyTypeOf s.arg0).bind seedOfKeyType with
    | none => s
    | some seed => { s with res0 := seed s.params (s.dbuf 0 s.arg1.toNat) s.arg2 }
  | .subst =>
    { s.setDbuf 0 (transform (s.dbuf 0 s.arg1.toNat) (s.arg0.extractLsb' 0 8)).1 with
      res0 := BitVec.ofNat 32 (transform (s.dbuf 0 s.arg1.toNat) (s.arg0.extractLsb' 0 8)).2 }
  | .substKey => { s with res0 := (perEntryKey s.arg0 s.arg1).setWidth 32 }
  | .arcTocSet => { s with tocSeed := s.arg0, tocValid := true }
  | .arcTocClr => { s with tocValid := false }
  | .arcHeader =>
    { s.newArchive with
      arcCount := le32 (s.ebuf 4 4), arcState := if le32 (s.ebuf 4 4) = 0 then .done else .entries }
  | .arcEntry =>
    if isKeyEntry s.params.keyMarker (s.ebuf 0 64) = true then s.keyEntry.advanceEntry
    else if s.arcEnc = true then s.decryptRecord.emitRow.advanceEntry
    else s.emitRow.advanceEntry
  | .arcAbort => { s with arcState := .idle }
  | .coreReset => s.coreReset

/-- R263: the three errors of a command that change nothing. -/
def plainErrors : List ErrCode := [.invalidArgument, .unsupportedKeyType, .stateError]

/-- What a command can do. -/
theorem exec_cases {i : Instr} {s t : State} (h : exec i s = .next t) :
    (∃ e ∈ plainErrors, t = s.complete (opcode i) e) ∨
      (i = .arcHeader ∧ ∃ e, (e = .badSignature ∨ e = .truncatedEntry) ∧
        t = (s.newArchive.archiveFatal e).complete (opcode i) e) ∨
      (i = .arcEntry ∧ s.arcState = .entries ∧ ∃ e, (e = .missingTocSeed ∨ e = .truncatedEntry) ∧
        t = (s.archiveFatal e).complete (opcode i) e) ∨
      t = (successEffect i s).complete (opcode i) .ok := by
  cases i <;> simp only [exec] at h
  case bfKey =>
    unfold execBfKey at h
    split at h
    · exact .inl ⟨_, by decide, (raise_eq_next ..).1 h⟩
    · split at h
      · exact .inl ⟨_, by decide, (raise_eq_next ..).1 h⟩
      · exact .inr (.inr (.inr ((succeed_eq_next ..).1 h)))
  case bfEncb =>
    unfold execBfEncb at h
    split at h
    · exact .inl ⟨_, by decide, (raise_eq_next ..).1 h⟩
    · exact .inr (.inr (.inr ((succeed_eq_next ..).1 h)))
  case bfDecb =>
    unfold execBfDecb at h
    split at h
    · exact .inl ⟨_, by decide, (raise_eq_next ..).1 h⟩
    · exact .inr (.inr (.inr ((succeed_eq_next ..).1 h)))
  case bfEnc =>
    unfold execBfEnc at h
    split at h
    · exact .inl ⟨_, by decide, (raise_eq_next ..).1 h⟩
    · split at h
      · exact .inl ⟨_, by decide, (raise_eq_next ..).1 h⟩
      · exact .inr (.inr (.inr ((succeed_eq_next ..).1 h)))
  case bfDec =>
    unfold execBfDec at h
    split at h
    · exact .inl ⟨_, by decide, (raise_eq_next ..).1 h⟩
    · split at h
      · exact .inl ⟨_, by decide, (raise_eq_next ..).1 h⟩
      · exact .inr (.inr (.inr ((succeed_eq_next ..).1 h)))
  case seedDerive =>
    unfold execSeedDerive at h
    split at h
    · exact .inl ⟨_, by decide, (raise_eq_next ..).1 h⟩
    · rename_i seed hs
      split at h
      · exact .inl ⟨_, by decide, (raise_eq_next ..).1 h⟩
      · refine .inr (.inr (.inr ?_))
        rw [(succeed_eq_next ..).1 h]
        simp only [successEffect, hs]
  case subst =>
    unfold execSubst at h
    split at h
    · exact .inl ⟨_, by decide, (raise_eq_next ..).1 h⟩
    · split at h
      · exact .inl ⟨_, by decide, (raise_eq_next ..).1 h⟩
      · exact .inr (.inr (.inr ((succeed_eq_next ..).1 h)))
  case arcTocSet =>
    unfold execArcTocSet at h
    split at h
    · exact .inl ⟨_, by decide, (raise_eq_next ..).1 h⟩
    · exact .inr (.inr (.inr ((succeed_eq_next ..).1 h)))
  case arcTocClr =>
    unfold execArcTocClr at h
    split at h
    · exact .inl ⟨_, by decide, (raise_eq_next ..).1 h⟩
    · exact .inr (.inr (.inr ((succeed_eq_next ..).1 h)))
  case arcHeader =>
    unfold execArcHeader at h
    split at h
    · exact .inl ⟨_, by decide, (raise_eq_next ..).1 h⟩
    · split at h
      · exact .inr (.inl ⟨rfl, _, .inl rfl, (archiveError_eq_next ..).1 h⟩)
      · split at h
        · exact .inr (.inl ⟨rfl, _, .inr rfl, (archiveError_eq_next ..).1 h⟩)
        · exact .inr (.inr (.inr ((succeed_eq_next ..).1 h)))
  case arcEntry =>
    unfold execArcEntry at h
    split at h
    · exact .inl ⟨_, by decide, (raise_eq_next ..).1 h⟩
    · split at h
      · exact .inl ⟨_, by decide, (raise_eq_next ..).1 h⟩
      · rename_i hst
        have hst := Decidable.not_not.1 hst
        split at h
        · exact .inr (.inr (.inl ⟨rfl, hst, _, .inr rfl, (archiveError_eq_next ..).1 h⟩))
        · split at h
          · rename_i hk
            refine .inr (.inr (.inr ?_))
            rw [(succeed_eq_next ..).1 h]
            simp only [successEffect, if_pos hk]
          · rename_i hk
            split at h
            · rename_i he
              split at h
              · exact .inr (.inr (.inl ⟨rfl, hst, _, .inl rfl, (archiveError_eq_next ..).1 h⟩))
              · refine .inr (.inr (.inr ?_))
                rw [(succeed_eq_next ..).1 h]
                simp only [successEffect, if_neg hk, if_pos he]
            · rename_i he
              refine .inr (.inr (.inr ?_))
              rw [(succeed_eq_next ..).1 h]
              simp only [successEffect, if_neg hk, if_neg he]
  all_goals exact .inr (.inr (.inr ((succeed_eq_next ..).1 h)))

end Sys2Proof.Machine
end

