-- ==== Sys2Proof/Laws/HostProgram.lean ====
section
/-! SUPPORT. The host-program syntax: which words RBUF reads. -/

namespace Sys2Proof.Machine

/-- R82: RBUF reads exactly the aligned words that hold one of the `count` bytes from offset a on. -/
theorem mem_rbuf_iff (a count : Nat) (op : HostOp) :
    op ∈ rbuf a count ↔ ∃ x, op = .read x 4 ∧ x % 4 = 0 ∧ ∃ k, k < count ∧ x ≤ a + k ∧ a + k < x + 4 := by
  unfold rbuf
  split
  · rename_i hc
    simp [hc]
  · rename_i hc
    simp only [List.mem_map, List.mem_range]
    constructor
    · rintro ⟨j, hj, rfl⟩
      -- The first word starts at or before offset a; a later one holds its own first byte.
      exact ⟨_, rfl, by omega, 4 * (a / 4 + j) - a, by omega, by omega, by omega⟩
    · rintro ⟨x, rfl, hx, k, hk, hlo, hhi⟩
      exact ⟨x / 4 - a / 4, by omega, by congr 1; omega⟩

end Sys2Proof.Machine
end

