-- ==== Sys2Proof/Laws/Params.lean ====
section
/-! SUPPORT. Every salt the free values can be is one that R12 allows, and so are the parameters at reset. -/

namespace Sys2Proof

theorem saltWf_saltOf (n : Fin 256) (f : Nat → Fin 255) : saltWf (Config.saltOf n.val f) = true := by
  simp only [saltWf, Bool.and_eq_true, List.all_eq_true, decide_eq_true_eq, Config.saltOf, List.length_map,
    List.length_range]
  refine ⟨fun b hb => ?_, by omega⟩
  obtain ⟨k, -, rfl⟩ := List.mem_map.1 hb
  rw [bne_iff_ne]
  intro h
  have h2 := congrArg BitVec.toNat h
  have h3 := (f k).isLt
  rw [BitVec.toNat_ofNat, Nat.mod_eq_of_lt (by omega)] at h2
  simp at h2

theorem defaultParams_wf : Config.defaultParams.wf = true := by
  simp only [Params.wf, Bool.and_eq_true]
  exact ⟨⟨by decide, saltWf_saltOf _ _⟩, saltWf_saltOf _ _⟩

end Sys2Proof
end

