-- ==== Sys2Proof/Laws/PerInstr.lean ====
section
/-! SUPPORT. The laws stated per instruction.  Encoding: the command word of every command is a legal one (R70, R71, R73),
so no command of R72 has an unassigned opcode or a reserved bit set. -/

namespace Sys2Proof.Laws

/-- R70, R71, R73: the command's word is legal. -/
def Encoding.Statement (i : Instr) : Prop := commandWordWf (encodeWord i) = true

theorem Encoding.nop : Encoding.Statement .nop := by unfold Encoding.Statement; decide
theorem Encoding.mtSeed : Encoding.Statement .mtSeed := by unfold Encoding.Statement; decide
theorem Encoding.mtTwist : Encoding.Statement .mtTwist := by unfold Encoding.Statement; decide
theorem Encoding.mtNext : Encoding.Statement .mtNext := by unfold Encoding.Statement; decide
theorem Encoding.mtTemper : Encoding.Statement .mtTemper := by unfold Encoding.Statement; decide
theorem Encoding.mtUntemper : Encoding.Statement .mtUntemper := by unfold Encoding.Statement; decide
theorem Encoding.mtFirst : Encoding.Statement .mtFirst := by unfold Encoding.Statement; decide
theorem Encoding.bfKey : Encoding.Statement .bfKey := by unfold Encoding.Statement; decide
theorem Encoding.bfEncb : Encoding.Statement .bfEncb := by unfold Encoding.Statement; decide
theorem Encoding.bfDecb : Encoding.Statement .bfDecb := by unfold Encoding.Statement; decide
theorem Encoding.bfEnc : Encoding.Statement .bfEnc := by unfold Encoding.Statement; decide
theorem Encoding.bfDec : Encoding.Statement .bfDec := by unfold Encoding.Statement; decide
theorem Encoding.seedDerive : Encoding.Statement .seedDerive := by unfold Encoding.Statement; decide
theorem Encoding.subst : Encoding.Statement .subst := by unfold Encoding.Statement; decide
theorem Encoding.substKey : Encoding.Statement .substKey := by unfold Encoding.Statement; decide
theorem Encoding.arcTocSet : Encoding.Statement .arcTocSet := by unfold Encoding.Statement; decide
theorem Encoding.arcTocClr : Encoding.Statement .arcTocClr := by unfold Encoding.Statement; decide
theorem Encoding.arcHeader : Encoding.Statement .arcHeader := by unfold Encoding.Statement; decide
theorem Encoding.arcEntry : Encoding.Statement .arcEntry := by unfold Encoding.Statement; decide
theorem Encoding.arcAbort : Encoding.Statement .arcAbort := by unfold Encoding.Statement; decide
theorem Encoding.coreReset : Encoding.Statement .coreReset := by unfold Encoding.Statement; decide

end Sys2Proof.Laws
end

