-- ==== Sys2Proof/Laws/Window.lean ====
section
/-! SUPPORT. The register window: which offsets name which words, and what a step does on one host access that R53
defines, with BUSY = 0 and with BUSY = 1. -/

namespace Sys2Proof.Machine

/-! ### The address map -/

theorem windowWord_dbuf {a : Nat} (h : 0x200 ≤ a) (h' : a < 0x300) : windowWord a = .dbuf (a - 0x200) := by
  have h2 : a ≤ 0x2FF := Nat.le_of_lt_succ h'
  unfold windowWord
  repeat rw [if_neg (by omega)]
  rw [if_pos ⟨h, h2⟩]

theorem windowWord_ebuf {a : Nat} (h : 0x300 ≤ a) (h' : a < 0x348) : windowWord a = .ebuf (a - 0x300) := by
  have h2 : a ≤ 0x347 := Nat.le_of_lt_succ h'
  unfold windowWord
  repeat rw [if_neg (by omega)]
  rw [if_pos ⟨h, h2⟩]

theorem windowWord_mtState {a : Nat} (h : 0x1000 ≤ a) (h' : a < 0x19C0) :
    windowWord a = .mtState ((a - 0x1000) / 4) := by
  have h2 : a ≤ 0x19BF := Nat.le_of_lt_succ h'
  unfold windowWord
  repeat rw [if_neg (by omega)]
  rw [if_pos ⟨h, h2⟩]

theorem ite_ne_of {c : Prop} [Decidable c] {x y z : WindowWord} (hx : c → x ≠ z) (hy : ¬ c → y ≠ z) :
    (if c then x else y) ≠ z := by
  by_cases h : c
  · rw [if_pos h]
    exact hx h
  · rw [if_neg h]
    exact hy h

/-- Only offset 0x000 names ID. -/
theorem windowWord_eq_id {a : Nat} : windowWord a = .id ↔ a = 0x000 := by
  refine ⟨fun h => Decidable.byContradiction fun h0 => absurd h ?_, fun h => by rw [h]; rfl⟩
  unfold windowWord
  rw [if_neg h0]
  repeat' refine ite_ne_of (fun _ => ?_) (fun _ => ?_)
  all_goals exact WindowWord.noConfusion

/-- Only offset 0x004 names STATUS. -/
theorem windowWord_eq_status {a : Nat} : windowWord a = .status ↔ a = 0x004 := by
  refine ⟨fun h => Decidable.byContradiction fun h0 => absurd h ?_, fun h => by rw [h]; rfl⟩
  unfold windowWord
  refine ite_ne_of (fun _ => WindowWord.noConfusion) (fun _ => ?_)
  rw [if_neg h0]
  repeat' refine ite_ne_of (fun _ => ?_) (fun _ => ?_)
  all_goals exact WindowWord.noConfusion

/-- R51, R52: the offsets that name nothing that can be written. -/
theorem windowWrite_readOnly {a : Nat} (ha : a % 4 = 0)
    (h : a < 0x008 ∨ a = 0x00C ∨ 0x01C ≤ a ∧ a < 0x200 ∨ 0x348 ≤ a) (s : State) (v : Word) :
    s.windowWrite a v = s := by
  obtain ⟨h1, h2, h3, h4, h5, h6⟩ : windowWord a ≠ .cmd ∧ windowWord a ≠ .arg0 ∧ windowWord a ≠ .arg1 ∧
      windowWord a ≠ .arg2 ∧ (∀ k, windowWord a ≠ .dbuf k) ∧ ∀ k, windowWord a ≠ .ebuf k := by
    unfold windowWord
    refine ⟨?_, ?_, ?_, ?_, fun k => ?_, fun k => ?_⟩ <;>
    · repeat' refine ite_ne_of (fun _ => ?_) (fun _ => ?_)
      all_goals first | exact WindowWord.noConfusion | omega
  unfold State.windowWrite
  split <;> simp_all

/-! ### What the queue and the latency do not touch -/

@[simp] theorem State.busy_withQueue (s : State) (q : List HostOp) : (s.withQueue q).busy = s.busy := rfl
@[simp] theorem State.busy_tick (s : State) : s.tick.busy = s.busy := rfl

@[simp] theorem State.windowRead_withQueue (s : State) (q : List HostOp) (a : Nat) :
    (s.withQueue q).windowRead a = s.windowRead a := by
  unfold State.windowRead
  cases windowWord a <;> rfl

@[simp] theorem State.windowRead_tick (s : State) (a : Nat) : s.tick.windowRead a = s.windowRead a := by
  unfold State.windowRead
  cases windowWord a <;> rfl

theorem State.busy_eq_false {s : State} (h : s.pending = none) : s.busy = false := by
  simp [State.busy, h]

theorem State.busy_eq_true {s : State} {w : Word} (h : s.pending = some w) : s.busy = true := by
  simp [State.busy, h]

/-! ### One step on one event -/

/-- With no command pending, a step is the next event from outside. -/
theorem step_idle {s : State} (hp : s.pending = none) : step s = hostStep s := by
  simp [step, hp]

/-- While a command waits, a step is the next event from outside, and the latency goes down. -/
theorem step_waiting {s : State} {w : Word} (hp : s.pending = some w) (hw : s.wait ≠ 0) :
    step s = hostStep s.tick := by
  simp [step, hp, hw, waitingStep]

theorem hostStep_cons {s : State} {op : HostOp} {rest : List HostOp} (hq : s.hostQueue = op :: rest) :
    hostStep s = hostOp op rest s := by
  simp [hostStep, hq]

theorem checkedAccess_defined {a : Nat} (ha : a % 4 = 0) (hb : a < 0x2000) (k : State) :
    checkedAccess a 4 k = .next k := by
  simp [checkedAccess, ha, Config.windowBytes, Nat.not_le.2 hb]

/-- A defined read while BUSY = 0. -/
theorem step_read_idle {s : State} {a : Nat} {rest : List HostOp} (hp : s.pending = none)
    (hq : s.hostQueue = .read a 4 :: rest) (ha : a % 4 = 0) (hb : a < 0x2000) :
    step s = .next ((s.withQueue rest).logRead (s.windowRead a)) := by
  rw [step_idle hp, hostStep_cons hq, hostOp, checkedAccess_defined ha hb, State.hostRead,
    if_neg (by simp [State.busy_eq_false hp]), State.windowRead_withQueue]

/-- A defined write while BUSY = 0. -/
theorem step_write_idle {s : State} {a : Nat} {v : Word} {rest : List HostOp} (hp : s.pending = none)
    (hq : s.hostQueue = .write a 4 v :: rest) (ha : a % 4 = 0) (hb : a < 0x2000) :
    step s = .next ((s.withQueue rest).windowWrite a v) := by
  rw [step_idle hp, hostStep_cons hq, hostOp, checkedAccess_defined ha hb, State.hostWrite,
    if_neg (by simp [State.busy_eq_false hp])]

/-- A defined write while BUSY = 1. -/
theorem step_write_busy {s : State} {w : Word} {a : Nat} {v : Word} {rest : List HostOp} (hp : s.pending = some w)
    (hw : s.wait ≠ 0) (hq : s.hostQueue = .write a 4 v :: rest) (ha : a % 4 = 0) (hb : a < 0x2000) :
    step s = .next (s.tick.withQueue rest).overrun := by
  rw [step_waiting hp hw, hostStep_cons (s := s.tick) hq, hostOp, checkedAccess_defined ha hb, State.hostWrite,
    if_pos (by simp [State.busy_eq_true hp])]

/-- A defined read of ID or STATUS while BUSY = 1. -/
theorem step_read_busy_defined {s : State} {w : Word} {a : Nat} {rest : List HostOp} (hp : s.pending = some w)
    (hw : s.wait ≠ 0) (hq : s.hostQueue = .read a 4 :: rest) (ha : a = 0x000 ∨ a = 0x004) :
    step s = .next ((s.tick.withQueue rest).logRead (s.windowRead a)) := by
  rw [step_waiting hp hw, hostStep_cons (s := s.tick) hq, hostOp,
    checkedAccess_defined (by rcases ha with rfl | rfl <;> rfl) (by rcases ha with rfl | rfl <;> decide),
    State.hostRead, if_neg, State.windowRead_withQueue, State.windowRead_tick]
  rintro ⟨-, h1, h2⟩
  rcases ha with rfl | rfl
  · exact h1 rfl
  · exact h2 rfl

/-- A defined read of any other word while BUSY = 1. -/
theorem step_read_busy_other {s : State} {w : Word} {a : Nat} {rest : List HostOp} (hp : s.pending = some w)
    (hw : s.wait ≠ 0) (hq : s.hostQueue = .read a 4 :: rest) (ha : a % 4 = 0) (hb : a < 0x2000)
    (h0 : a ≠ 0x000) (h4 : a ≠ 0x004) :
    step s = .next ((s.tick.withQueue rest).logRead (Config.busyRead s.freeIndex)).nextFree := by
  rw [step_waiting hp hw, hostStep_cons (s := s.tick) hq, hostOp, checkedAccess_defined ha hb, State.hostRead,
    if_pos ⟨by simp [State.busy_eq_true hp], fun h => h0 (windowWord_eq_id.1 h), fun h => h4 (windowWord_eq_status.1 h)⟩]
  rfl

end Sys2Proof.Machine
end

