-- ==== Sys2Proof/Tests/Slice0.lean ====
section
/-! SUPPORT. Tests of one step or one function each, with expected values from spec/95_test_vectors.md or worked out by
hand from the rules, and for each statement with hypotheses a witness that meets them. -/

namespace Sys2Proof.Tests

open Sys2Proof Sys2Proof.Machine

/-! ### Small states -/

/-- Reset with three operands. -/
def args (a0 a1 a2 : Word) : State := { State.reset with arg0 := a0, arg1 := a1, arg2 := a2 }

/-- Reset with the host's next events. -/
def asked (q : List HostOp) : State := { State.reset with hostQueue := q }

/-- NOP waits two more steps, and the host's next events. -/
def busyWith (q : List HostOp) : State := { State.reset with pending := some 0, wait := 2, hostQueue := q }

/-- Reset with a command word latched, its latency over. -/
def latched (w : Word) : State := { State.reset with pending := some w }

/-- A schedule whose rounds only change the halves' places, with P[16] and P[17] visible. -/
def swapSchedule : Schedule :=
  { p := ((Vector.replicate 18 0).set 16 0x11111111).set 17 0x22222222
    s := Vector.replicate 4 (Vector.replicate 256 0) }

/-- Operands, and a valid schedule. -/
def keyed (a0 a1 : Word) : State := { args a0 a1 0 with bf := swapSchedule, bfValid := true, bfKeylen := 4 }

/-- An archive in Entries, of `count` records, with 72 bytes available. -/
def inArchive (count : Word) (enc : Bool) : State :=
  { args 0 72 0 with
    params := { Config.defaultParams with commonSalt := [], debugSalt := [] }
    arcState := .entries, arcCount := count, arcEnc := enc, bfValid := enc, bf := swapSchedule, bfKeylen := 4 }

/-- 95_test_vectors.md V-ARC-4: the key entry's name. -/
def keyName : List Byte := [0x5F, 0x5F, 0x6B, 0x65, 0x79, 0x5F, 0x5F, 0x2E, 0x64, 0x61, 0x74] ++ List.replicate 53 0

/-- V-ARC-4: "PKVOP01.ABH", the stored name of record 1. -/
def cipherName : List Byte := [0x50, 0x4B, 0x56, 0x4F, 0x50, 0x30, 0x31, 0x2E, 0x41, 0x42, 0x48]

/-- One field of the next state. -/
def after {α : Type} (o : Host.Outcome State Fault Refusal) (f : State → α) : Option α :=
  match o with
  | .next t => some (f t)
  | .fault _ => none
  | .refused _ => none

/-! ### Well-formedness: each check refuses an ill-formed term -/

theorem test_wf_word_reserved_bits : commandWordWf 0x00000100 = false := by decide
theorem test_wf_word_unassigned :
    ([0x07, 0x0F, 0x15, 0x1F, 0x21, 0x2F, 0x32, 0x3F, 0x45, 0xFE] : List Word).any commandWordWf = false := by decide
theorem test_wf_word_assigned : ([0x00, 0x06, 0x10, 0x44, 0xFF] : List Word).all commandWordWf = true := by decide
theorem test_wf_access_width : accessWf 0x010 1 = false ∧ accessWf 0x010 8 = false := by decide
theorem test_wf_access_misaligned : accessWf 0x012 4 = false := by decide
theorem test_wf_access_outside : accessWf 0x2000 4 = false ∧ accessWf 0x1FFC 4 = true := by decide
theorem test_wf_hostOp : HostOp.wf (.write 0x2000 4 0) = false ∧ HostOp.wf (.read 0x001 4) = false := by decide
theorem test_wf_salt : saltWf [0x58, 0x00] = false ∧ saltWf (List.replicate 256 1) = false ∧
    saltWf (List.replicate 255 1) = true := by decide +kernel
theorem test_wf_params_marker :
    Params.wf { magic := #v[0, 0, 0, 0], keyMarker := Vector.replicate 11 0, commonSalt := [], debugSalt := [] } = false ∧
      Params.wf { magic := #v[0, 0, 0, 0], keyMarker := Vector.replicate 11 0x80, commonSalt := [], debugSalt := [] } =
        false := by decide
theorem test_wf_params_salt :
    Params.wf { magic := #v[0, 0, 0, 0], keyMarker := Vector.replicate 11 0x41, commonSalt := [0], debugSalt := [] } =
      false := by decide

/-! ### Decoding: words from R72 and the 8-bit OPC field of R70 -/

-- One word of each family bit by bit: RSV (24 bits) and OPC (8 bits).
theorem test_decode_bits_prng :
    decodeWord 0b000000000000000000000000_00000011#32 = .ok .mtNext := by decide
theorem test_decode_bits_cipher :
    decodeWord 0b000000000000000000000000_00010011#32 = .ok .bfEnc := by decide
theorem test_decode_bits_seed :
    decodeWord 0b000000000000000000000000_00100000#32 = .ok .seedDerive := by decide
theorem test_decode_bits_subst :
    decodeWord 0b000000000000000000000000_00110001#32 = .ok .substKey := by decide
theorem test_decode_bits_archive :
    decodeWord 0b000000000000000000000000_01000011#32 = .ok .arcEntry := by decide
theorem test_decode_bits_control :
    decodeWord 0b000000000000000000000000_11111111#32 = .ok .coreReset := by decide
theorem test_decode_bits_reserved :
    decodeWord 0b100000000000000000000000_00000000#32 = .error .reservedBits := by decide

-- Every command, by its word's bytes as the hardware stores them.
theorem test_decode_nop : decode [0x00, 0, 0, 0] = .ok (.nop, []) := by decide
theorem test_decode_mtSeed : decode [0x01, 0, 0, 0] = .ok (.mtSeed, []) := by decide
theorem test_decode_mtTwist : decode [0x02, 0, 0, 0] = .ok (.mtTwist, []) := by decide
theorem test_decode_mtNext : decode [0x03, 0, 0, 0] = .ok (.mtNext, []) := by decide
theorem test_decode_mtTemper : decode [0x04, 0, 0, 0] = .ok (.mtTemper, []) := by decide
theorem test_decode_mtUntemper : decode [0x05, 0, 0, 0] = .ok (.mtUntemper, []) := by decide
theorem test_decode_mtFirst : decode [0x06, 0, 0, 0] = .ok (.mtFirst, []) := by decide
theorem test_decode_bfKey : decode [0x10, 0, 0, 0] = .ok (.bfKey, []) := by decide
theorem test_decode_bfEncb : decode [0x11, 0, 0, 0] = .ok (.bfEncb, []) := by decide
theorem test_decode_bfDecb : decode [0x12, 0, 0, 0] = .ok (.bfDecb, []) := by decide
theorem test_decode_bfEnc : decode [0x13, 0, 0, 0] = .ok (.bfEnc, []) := by decide
theorem test_decode_bfDec : decode [0x14, 0, 0, 0] = .ok (.bfDec, []) := by decide
theorem test_decode_seedDerive : decode [0x20, 0, 0, 0] = .ok (.seedDerive, []) := by decide
theorem test_decode_subst : decode [0x30, 0, 0, 0] = .ok (.subst, []) := by decide
theorem test_decode_substKey : decode [0x31, 0, 0, 0] = .ok (.substKey, []) := by decide
theorem test_decode_arcTocSet : decode [0x40, 0, 0, 0] = .ok (.arcTocSet, []) := by decide
theorem test_decode_arcTocClr : decode [0x41, 0, 0, 0] = .ok (.arcTocClr, []) := by decide
theorem test_decode_arcHeader : decode [0x42, 0, 0, 0] = .ok (.arcHeader, []) := by decide
theorem test_decode_arcEntry : decode [0x43, 0, 0, 0] = .ok (.arcEntry, []) := by decide
theorem test_decode_arcAbort : decode [0x44, 0, 0, 0] = .ok (.arcAbort, []) := by decide
theorem test_decode_coreReset : decode [0xFF, 0, 0, 0] = .ok (.coreReset, []) := by decide
theorem test_decode_refused :
    decode [0x07, 0, 0, 0] = .error .unassignedOpcode ∧ decode [0x00, 1, 0, 0] = .error .reservedBits ∧
      decode [0x00, 0, 0] = .error .tooShort := by decide

/-! ### One step of each command -/

-- V-CTL-1.
theorem test_nop : after (step (latched 0)) (·.statusWord) = some 0x00000000 := by decide
theorem test_illegal_rsv : after (step (latched 0x100)) (·.statusWord) = some 0x00000600 := by decide
theorem test_illegal_opc : after (step (latched 0x07)) (·.statusWord) = some 0x00070600 := by decide
-- V-PRNG-3 (seed 1) and program P1.
theorem test_mtSeed : after (exec .mtSeed (args 1 0 0)) (fun t => (t.mtState[1], t.mtCursor.val)) =
    some (0x1C59C359, 624) := by decide +kernel
-- V-PRNG-4 (seed 4357): an unseeded generator is seeded with the default first.
theorem test_mtTwist : after (exec .mtTwist State.reset) (fun t => (t.mtState[0], t.mtCursor.val)) =
    some (0x0FCB8D0B, 0) := by decide +kernel
-- V-PRNG-5, the corner case after a hardware reset.
theorem test_mtNext : after (exec .mtNext State.reset) (fun t => (t.res0, t.mtCursor.val)) =
    some (0xAAE64AC3, 1) := by decide +kernel
-- V-PRNG-1.
theorem test_mtTemper : after (exec .mtTemper (args 0xDEADBEEF 0 0)) (·.res0) = some 0xE016575D := by decide
theorem test_mtUntemper : after (exec .mtUntemper (args 0xDEADBEEF 0 0)) (·.res0) = some 0x8F3A6C09 := by decide
-- V-PRNG-6.
theorem test_mtFirst : after (exec .mtFirst (args 0x12345678 0 0)) (·.res0) = some 0x7899B975 := by decide +kernel
-- V-BF-1: the first two words of the schedule of E5 B9 F6 D3 are the first encryption of the zero block (R130).
theorem test_keySchedule_first :
    encryptHalves (keyedSchedule [0xE5, 0xB9, 0xF6, 0xD3]) (0, 0) = (0xA55E981B, 0xB56EAC6B) := by decide +kernel
-- Spot checks of the tables (95_test_vectors.md section 2).
theorem test_tables : pInit[0] = 0x243F6A88 ∧ pInit[17] = 0x8979FB1B ∧ sInit[0][0] = 0xD1310BA6 ∧
    sInit[3][255] = 0x3AC372E6 := by decide +kernel
-- V-BF-6: a key length of 57, and of 56.
theorem test_bfKey_range : after (exec .bfKey (args 0 57 0)) (·.err) = some .invalidArgument ∧
    after (exec .bfKey (args 0 56 0)) (fun t => (t.err, t.bfKeylen)) = some (.ok, 56) := by decide
-- By hand: with F = 0 the rounds only swap, so the halves change places under P[17] and P[16] (R132).
theorem test_bfEncb : after (exec .bfEncb (keyed 0xA0000000 0x0B000000)) (fun t => (t.res0, t.res1)) =
    some (0x29222222, 0xB1111111) := by decide +kernel
-- By hand: P[17] enters with the left half and P[16] with the right, and the halves change places (R133).
theorem test_bfDecb : after (exec .bfDecb (keyed 0x29222222 0xB1111111)) (fun t => (t.res0, t.res1)) =
    some (0xA0000000, 0x0B000000) := by decide +kernel
-- By hand: block 1 of two, halves little-endian.
theorem test_bfEnc : after (exec .bfEnc ((keyed 0 16).setDbuf 8 [1, 0, 0, 0, 2, 0, 0, 0])) (·.dbuf 8 8) =
    some [0x20, 0x22, 0x22, 0x22, 0x10, 0x11, 0x11, 0x11] := by decide +kernel
theorem test_bfDec : after (exec .bfDec ((keyed 0 8).setDbuf 0 [0x20, 0x22, 0x22, 0x22, 0x10, 0x11, 0x11, 0x11]))
    (·.dbuf 0 8) = some [1, 0, 0, 0, 2, 0, 0, 0] := by decide +kernel
-- V-SEED-1 ("wind", a zero byte, "mill") and V-SEED-2 (the tag is checked before the length).
theorem test_seedDerive : after (exec .seedDerive
      ((args 0 9 0).setDbuf 0 [0x77, 0x69, 0x6E, 0x64, 0x00, 0x6D, 0x69, 0x6C, 0x6C])) (·.res0) = some 0xE2B5EE6B := by
  decide +kernel
theorem test_seedDerive_tag_first : after (exec .seedDerive (args 4 300 0)) (·.err) = some .unsupportedKeyType := by
  decide
-- V-SUB-1: "AB", a zero byte, "CD" with key 3; and "zzzz" with key 51.
theorem test_subst : after (exec .subst ((args 3 5 0).setDbuf 0 [0x41, 0x42, 0x00, 0x43, 0x44]))
    (fun t => (t.dbuf 0 5, t.res0)) = some ([0x77, 0x75, 0x00, 0x43, 0x44], 2) := by decide +kernel
theorem test_subst_wrap : after (exec .subst ((args 51 4 0).setDbuf 0 [0x7A, 0x7A, 0x7A, 0x7A])) (·.dbuf 0 4) =
    some [0x42, 0x41, 0x7A, 0x79] := by decide +kernel
-- V-SUB-2.
theorem test_substKey : after (exec .substKey (args 0x12345678 3 0)) (·.res0) = some 206 := by decide +kernel
-- Program P3 and P4.
theorem test_arcTocSet : after (exec .arcTocSet (args 0x12345678 0 0)) (fun t => (t.tocSeed, t.arcStatusWord)) =
    some (0x12345678, 0x00000008) := by decide
theorem test_arcTocClr : after (exec .arcTocClr { args 0 0 0 with tocSeed := 9, tocValid := true })
    (fun t => (t.tocSeed, t.tocValid)) = some (9, false) := by decide
theorem test_arcHeader : after (exec .arcHeader
      ({ inArchive 0 false with arg1 := 8 }.setEbuf 0 [0x4B, 0x49, 0x46, 0x00, 3, 0, 0, 0]))
    (fun t => (t.arcStatusWord, t.arcCount)) = some (0x00000001, 3) := by decide +kernel
-- V-ARC-6.
theorem test_arcHeader_short : after (exec .arcHeader
      ({ inArchive 0 false with arg1 := 6 }.setEbuf 0 [0x4B, 0x49, 0x46, 0x00])) (fun t => (t.err, t.arcStatusWord)) =
    some (.truncatedEntry, 0x00000503) := by decide +kernel
-- Program P3, record 1: the name decrypts to "image01.png" and the row is counted.
theorem test_arcEntry : after (exec .arcEntry
      ({ inArchive 3 true with tocSeed := 0x12345678, tocValid := true, arcIndex := 1 }.setEbuf 0 cipherName))
    (fun t => (t.ebuf 0 12, t.res1, t.arcRows)) =
      some ([0x69, 0x6D, 0x61, 0x67, 0x65, 0x30, 0x31, 0x2E, 0x70, 0x6E, 0x67, 0x00], 11, 1) := by decide +kernel
-- Program P3, record 0: the key entry.
theorem test_arcEntry_key : after (exec .arcEntry ((inArchive 3 false).setEbuf 0 (keyName ++ [0, 0, 0, 0, 1, 0, 0, 0])))
    (fun t => (t.res0, t.res1, t.bfInfoWord, t.arcKeyseed)) = some (0, 11, 0x00000403, 1) := by decide +kernel
theorem test_arcAbort : after (exec .arcAbort (inArchive 3 true)) (fun t => (t.arcState, t.arcCount)) =
    some (.idle, 3) := by decide
-- V-CTL-2.
theorem test_coreReset : after (step { latched 0xFF with ovr := true, arg0 := 7 })
    (fun t => (t.statusWord, t.cursorWord, t.arg0)) = some (0x00FF0000, 0x271, 0) := by decide

/-! ### Functions -/

-- V-ARC-1.
theorem test_isKeyEntry : isKeyEntry Config.defaultParams.keyMarker keyName = true ∧
    isKeyEntry Config.defaultParams.keyMarker (keyName.dropLast ++ [1]) = false := by decide +kernel
-- V-ARC-2, the carry row: the sum crosses into byte 4.
theorem test_metadata_carry : bytesLe64 (le64 [0xFF, 0xFF, 0xFF, 0xFF, 1, 0, 0, 0] + 2) = [1, 0, 0, 0, 2, 0, 0, 0] := by
  decide
-- V-ARC-3.
theorem test_archiveKey : archiveKey 2 = [0x16, 0xB6, 0xA4, 0x64] := by decide +kernel
-- R222: inner zero bytes count, trailing ones do not.
theorem test_trimLen : trimLen [0x41, 0x00, 0x42, 0x00] = 3 ∧ trimLen [0x00, 0x00] = 0 := by decide

/-! ### The window and the host's events -/

-- R54: least significant byte first, and R295: nothing but OVR while BUSY = 1.
theorem test_window_write : after (step (asked [.write 0x2FC 4 0x44332211])) (·.dbuf 252 4) =
    some [0x11, 0x22, 0x33, 0x44] := by decide
theorem test_busy_write : after (step (busyWith [.write 0x010 4 9])) (fun t => (t.arg0, t.statusWord)) =
    some (0, 0x00000003) := by decide
theorem test_hardReset_while_busy : after (step (busyWith [.hardReset])) (fun t => (t.pending, t.statusWord)) =
    some (none, 0) := by decide
-- R81, R82: CALL and WBUF expanded (program P2's first line).
theorem test_call : call .arcHeader (some 0) (some 8) =
    [.write 0x010 4 0, .write 0x014 4 8, .write 0x008 4 0x42, .poll] := by decide
theorem test_wbuf : wbuf 0x200 [0x77, 0x69, 0x6E, 0x64, 0x6D] =
    [.write 0x200 4 0x646E6977, .write 0x204 4 0x0000006D] := by decide
theorem test_rbuf : rbuf 0x302 5 = [.read 0x300 4, .read 0x304 4] ∧ rbuf 0x302 0 = [] := by decide

/-! ### Witnesses: for each statement with hypotheses, states and operands that meet them -/

theorem witness_IllegalWordsOnlyReport :
    (latched 0x80000000).pending = some 0x80000000 ∧ (latched 0x80000000).wait = 0 ∧
      (0x80000000 : Word).extractLsb' 8 24 ≠ 0 ∧
      (latched 0xFE).pending = some 0xFE ∧ (latched 0xFE).wait = 0 ∧
      opcodeUnassigned ((0xFE : Word).extractLsb' 0 8).toNat = true := by decide

theorem witness_StepRunsLatchedCommand :
    (latched 0xFF).pending = some 0xFF ∧ (latched 0xFF).wait = 0 ∧ decodeWord 0xFF = .ok .coreReset ∧
      decode [0xFF, 0, 0, 0] = .ok (.coreReset, []) ∧ (latched 0xFF).pending = some (le32 [0xFF, 0, 0, 0]) := by
  decide

theorem witness_PendingCommandEnds :
    (busyWith [.write 0x1FFC 4 1, .poll]).pending = some 0 ∧
      ∀ op ∈ (busyWith [.write 0x1FFC 4 1, .poll]).hostQueue, op.wf = true := by decide

theorem witness_CmdWriteIssuesCommand :
    (asked [.write 0x008 4 0x43]).pending = none ∧
      (asked [.write 0x008 4 0x43]).hostQueue = .write 0x008 4 0x43 :: [] ∧
      (asked [.read 0x008 4]).pending = none ∧ (asked [.read 0x008 4]).hostQueue = .read 0x008 4 :: [] := by decide

theorem witness_BusyWritesAreDropped :
    (∀ a ∈ [0x000, 0x1FFC], (busyWith [.write a 4 7]).pending = some 0 ∧ (busyWith [.write a 4 7]).wait ≠ 0 ∧
      (busyWith [.write a 4 7]).hostQueue = .write a 4 7 :: [] ∧ a % 4 = 0 ∧ a < 0x2000) ∧
    ¬ (busyWith [.write 0 4 7]).resetNext ∧ ∃ t, step (busyWith [.write 0 4 7]) = .next t :=
  ⟨by decide, fun ⟨_, h⟩ => by simp [busyWith] at h, ⟨_, rfl⟩⟩

theorem witness_BusyReads :
    ∀ a ∈ [0x000, 0x004, 0x008, 0x1FFC], (busyWith [.read a 4]).pending = some 0 ∧ (busyWith [.read a 4]).wait ≠ 0 ∧
      (busyWith [.read a 4]).hostQueue = .read a 4 :: [] ∧ a % 4 = 0 ∧ a < 0x2000 := by decide

theorem witness_PollWaitsForCompletion :
    (asked [.poll]).hostQueue = .poll :: [] ∧ (asked [.poll]).pending = none ∧
      (busyWith [.poll]).hostQueue = .poll :: [] ∧ (busyWith [.poll]).pending = some 0 ∧ (busyWith [.poll]).wait ≠ 0 := by
  decide

theorem witness_UndefinedAccessesStop :
    (∀ x ∈ [(0x010, 1), (0x010, 8), (0x001, 4), (0x2001, 4), (0x2000, 4)],
      (asked [.read x.1 x.2]).pending = none ∧ (asked [.read x.1 x.2]).hostQueue = .read x.1 x.2 :: [] ∧
        (busyWith [.write x.1 x.2 7]).wait ≠ 0 ∧
        (busyWith [.write x.1 x.2 7]).hostQueue = .write x.1 x.2 7 :: []) ∧
      (0x001 % 4 ≠ 0) ∧ (0x2000 % 4 = 0 ∧ 0x2000 ≤ 0x2000) := by decide

-- Every word of the map, at its offset, and the first and last words of the three ranges.
theorem witness_IdleReadsReturnTheWord :
    ∀ a ∈ [0x000, 0x004, 0x010, 0x014, 0x018, 0x020, 0x024, 0x028, 0x030, 0x034, 0x040, 0x044, 0x048, 0x04C, 0x050,
        0x054, 0x200, 0x2FC, 0x300, 0x344, 0x1000 + 4 * 0, 0x1000 + 4 * 623],
      (asked [.read a 4]).pending = none ∧ (asked [.read a 4]).hostQueue = .read a 4 :: [] ∧ a % 4 = 0 ∧ a < 0x2000 := by
  decide +kernel

-- Every reserved word's range at its ends, and CMD, for reads; the read-only ranges at their ends for writes.
theorem witness_ReservedWordsReadZero :
    (∀ a ∈ [0x008, 0x00C, 0x01C, 0x02C, 0x038, 0x03C, 0x058, 0x1FC, 0x348, 0xFFC, 0x19C0, 0x1FFC],
      a % 4 = 0 ∧ a < 0x2000 ∧ (asked [.read a 4]).pending = none ∧ (asked [.read a 4]).hostQueue = .read a 4 :: []) ∧
    ∀ a ∈ [0x000, 0x004, 0x00C, 0x01C, 0x1FC, 0x348, 0x1FFC],
      a % 4 = 0 ∧ a < 0x2000 ∧ (asked [.write a 4 7]).pending = none ∧
        (asked [.write a 4 7]).hostQueue = .write a 4 7 :: [] ∧ (busyWith [.write a 4 7]).pending = some 0 ∧
        (busyWith [.write a 4 7]).wait ≠ 0 ∧ (busyWith [.write a 4 7]).hostQueue = .write a 4 7 :: [] := by
  decide +kernel

theorem witness_ArgRegistersStoreWrites :
    ∀ a ∈ [0x010, 0x014, 0x018], (asked [.write a 4 0xFFFFFFFF]).pending = none ∧
      (asked [.write a 4 0xFFFFFFFF]).hostQueue = .write a 4 0xFFFFFFFF :: [] := by decide

theorem witness_BufferWordsAreLittleEndian :
    ∀ x ∈ [(0x200, 0), (0x200, 63), (0x300, 0), (0x300, 17)],
      (asked [.write (x.1 + 4 * x.2) 4 0x44332211]).pending = none ∧
        (x.1 = 0x200 ∧ x.2 < 64 ∨ x.1 = 0x300 ∧ x.2 < 18) ∧
        (asked [.write (x.1 + 4 * x.2) 4 0x44332211]).hostQueue = .write (x.1 + 4 * x.2) 4 0x44332211 :: [] ∧
        (asked [.read (x.1 + 4 * x.2) 4]).hostQueue = .read (x.1 + 4 * x.2) 4 :: [] := by
  decide

theorem witness_OverrunIsSticky :
    (∃ t, step { latched 0xFF with ovr := true } = .next t ∧ t.ovr = false) ∧
      ∃ t, step { busyWith [.hardReset] with ovr := true } = .next t ∧ t.ovr = false :=
  ⟨⟨_, rfl, rfl⟩, ⟨_, rfl, rfl⟩⟩

/-- Every register of the core that CORE_RESET clears holds something. -/
def dirty : State :=
  { State.reset with
    arg0 := 1, arg1 := 2, arg2 := 3, res0 := 4, res1 := 5, res2 := 6, ovr := true, mtCursor := 3, bfValid := true
    bfOwnerArc := true, bfKeylen := 4, tocSeed := 7, tocValid := true, arcState := .entries, arcCount := 9
    arcIndex := 2, arcRows := 1, arcEnc := true, arcKeyseed := 8, arcErr := .badSignature }

-- Each clause's antecedent: CORE_RESET from `dirty` for the registers, and one command more for each of the others.
theorem witness_OnlyTheseCommandsWrite :
    (∃ t, exec .coreReset dirty = .next t ∧ t.arg0 ≠ dirty.arg0 ∧ t.mtCursor ≠ dirty.mtCursor ∧
      t.bfValid ≠ dirty.bfValid ∧ t.tocSeed ≠ dirty.tocSeed ∧ t.tocValid ≠ dirty.tocValid ∧
      t.arcState ≠ dirty.arcState ∧ t.arcCount ≠ dirty.arcCount ∧ t.arcIndex ≠ dirty.arcIndex) ∧
    (∃ t, exec .mtSeed (args 1 0 0) = .next t ∧ t.mtState[0] ≠ (args 1 0 0).mtState[0]) ∧
    (∃ s t, exec .bfKey s = .next t ∧ t.bf ≠ s.bf) ∧
    (∃ t, exec .subst ((args 0 1 0).setDbuf 0 [0x41]) = .next t ∧
      t.mem.read 0x200 ≠ ((args 0 1 0).setDbuf 0 [0x41]).mem.read 0x200) := by
  refine ⟨⟨_, rfl, by decide⟩, ⟨_, rfl, by decide +kernel⟩, ?_, ⟨_, rfl, by decide +kernel⟩⟩
  let k := keySchedule ((args 0 1 0).dbuf 0 1)
  refine ⟨{ args 0 1 0 with bf := { k with p := k.p.set 0 (k.p[0] + 1) } }, _, rfl, fun h => ?_⟩
  have h0 : k.p[0] = (k.p.set 0 (k.p[0] + 1))[0] := congrArg (fun b : Schedule => b.p[0]) h
  simp at h0

theorem witness_ResultRegistersOnlyOnSuccess :
    (∃ t, exec .bfEncb State.reset = .next t ∧ t.err ≠ .ok) ∧
      ∃ t, exec .bfEncb (keyed 1 2) = .next t ∧ t.res0 ≠ (keyed 1 2).res0 ∧ t.res1 ≠ (keyed 1 2).res1 :=
  ⟨⟨_, rfl, by decide⟩, ⟨_, rfl, by decide +kernel⟩⟩

-- One state for each of the four errors.
theorem witness_FailedCommandChangesNothing :
    (∃ t, step { latched 0x30 with arg0 := 256 } = .next t ∧ t.err = .invalidArgument) ∧
      (∃ t, step { latched 0x20 with arg0 := 4 } = .next t ∧ t.err = .unsupportedKeyType) ∧
      (∃ t, step (latched 0x07) = .next t ∧ t.err = .illegalCommand) ∧
      ∃ t, step (latched 0x11) = .next t ∧ t.err = .stateError :=
  ⟨⟨_, rfl, rfl⟩, ⟨_, rfl, rfl⟩, ⟨_, rfl, rfl⟩, ⟨_, rfl, rfl⟩⟩

theorem witness_ArchiveErrorsAreFatal :
    (∃ t, exec .arcHeader (args 0 3 0) = .next t ∧ t.err = .badSignature) ∧
      (∃ t, exec .arcEntry (inArchive 1 true) = .next t ∧ t.err = .missingTocSeed) ∧
      ∃ t, exec .arcEntry { inArchive 1 true with arg1 := 71 } = .next t ∧ t.err = .truncatedEntry :=
  ⟨⟨_, rfl, rfl⟩, ⟨_, rfl, by decide +kernel⟩, ⟨_, rfl, rfl⟩⟩

theorem witness_ErrorCausesInCheckOrder : ∃ t, exec .arcEntry (inArchive 1 true) = .next t := ⟨_, rfl⟩

/-- A second key entry in an encrypted archive, under a given schedule. -/
def secondKeyEntry (k : Schedule) : State :=
  { (inArchive 3 true).setEbuf 0 keyName with pending := some 0x43, bf := k }

-- All clauses: the schedule before it differs from the one this key entry builds.
theorem witness_TocSeedIsFixedInAnArchive :
    ∃ s t, step s = .next t ∧ s.arcState = .entries ∧ t.arcState = .entries ∧ s.arcEnc = true ∧ t.arcEnc = true ∧
      t.bf ≠ s.bf := by
  let k := keySchedule (archiveKey 0)
  have hseed : le32 (((inArchive 3 true).setEbuf 0 keyName).ebuf 68 4) = 0 := by decide +kernel
  have hrun : ∀ k' : Schedule, ∃ t, step (secondKeyEntry k') = .next t ∧ t.arcState = .entries ∧ t.arcEnc = true ∧
      t.bf = k := fun k' => ⟨_, rfl, rfl, rfl, congrArg (fun x => keySchedule (archiveKey x)) hseed⟩
  obtain ⟨t, ht, hst, henc, hbf⟩ := hrun { k with p := k.p.set 0 (k.p[0] + 1) }
  refine ⟨_, t, ht, rfl, hst, rfl, henc, fun h => ?_⟩
  have h0 : k.p[0] = (k.p.set 0 (k.p[0] + 1))[0] := congrArg (fun b : Schedule => b.p[0]) (hbf.symm.trans h)
  simp at h0

theorem witness_MtSeedAndTwistResults : State.reset.mtCursor = 625 ∧ dirty.mtCursor ≠ 625 := by decide

theorem witness_MtNextResult :
    { State.reset with mtCursor := 0 }.mtCursor.val < 624 ∧ { State.reset with mtCursor := 623 }.mtCursor.val < 624 ∧
      { State.reset with mtCursor := 624 }.mtCursor.val = 624 ∧ State.reset.mtCursor.val = 625 := by decide

theorem witness_FirstOutputAgreesWithGenerator :
    ∃ a b c, exec .mtFirst State.reset = .next a ∧ exec .mtSeed State.reset = .next b ∧ exec .mtNext b = .next c :=
  ⟨_, _, _, rfl, rfl, rfl⟩

theorem witness_GeneratorIsNotTouched :
    (∃ t, exec .mtFirst State.reset = .next t) ∧ (∃ t, exec .substKey State.reset = .next t) ∧
      ∃ t, exec .arcEntry (inArchive 3 true) = .next t :=
  ⟨⟨_, rfl⟩, ⟨_, rfl⟩, ⟨_, rfl⟩⟩

theorem witness_CipherRoundTrip : ([1, 2, 3, 4, 5, 6, 7, 8] : List Byte).length = 8 := by decide

-- Both directions: a key and its repetition, and two keys with different streams.
theorem witness_SameScheduleIffSameKeyStream :
    (∀ m, m < 72 → ([0x41] : List Byte).getD (m % 1) 0 = ([0x41, 0x41, 0x41, 0x41] : List Byte).getD (m % 4) 0) ∧
      ([1, 2] : List Byte).getD (1 % 2) 0 ≠ ([1, 3] : List Byte).getD (1 % 2) 0 ∧
      (List.replicate 56 (0 : Byte)).length ≤ 56 := by decide +kernel

theorem witness_BfKeyResult :
    1 ≤ (args 0 1 0).arg1.toNat ∧ (args 0 56 0).arg1.toNat ≤ 56 ∧
      ¬ (State.reset.arcState = .entries ∧ State.reset.arcEnc = true) ∧
      (args 0 0 0).arg1.toNat < 1 ∧ 56 < (args 0 57 0).arg1.toNat ∧
      { inArchive 1 true with arg1 := 56 }.arg1.toNat ≤ 56 ∧
      (inArchive 1 true).arcState = .entries ∧ (inArchive 1 true).arcEnc = true := by decide

theorem witness_BfHalvesResults : (keyed 1 2).bfValid = true ∧ State.reset.bfValid = false := by decide

theorem witness_BfDataResults :
    (keyed 0 0).arg1.toNat % 8 = 0 ∧ (keyed 0 256).arg1.toNat ≤ 256 ∧ (keyed 0 256).arg1.toNat % 8 = 0 ∧
      (keyed 0 256).bfValid = true ∧ (args 0 256 0).bfValid = false ∧
      256 < (keyed 0 264).arg1.toNat ∧ (keyed 0 255).arg1.toNat % 8 ≠ 0 := by decide

theorem witness_DecAfterEncRestoresMemory :
    ∃ t u, ((keyed 0 8).setDbuf 0 [1, 0, 0, 0, 2]).mem.wf = true ∧
      exec .bfEnc ((keyed 0 8).setDbuf 0 [1, 0, 0, 0, 2]) = .next t ∧ t.err = .ok ∧ exec .bfDec t = .next u :=
  ⟨_, _, by decide, rfl, rfl, rfl⟩

theorem witness_SeedDeriveResult :
    ((args 0 256 0).arg0 = 0 ∧ (args 1 256 0).arg0 = 1 ∧ (args 2 256 0).arg0 = 2 ∧ (args 3 256 0).arg0 = 3 ∧
      (args 3 256 0).arg1.toNat ≤ 256) ∧
    ((args 3 257 0).arg0.toNat ≤ 3 ∧ 256 < (args 3 257 0).arg1.toNat) ∧
    3 < (args 4 0 0).arg0.toNat ∧ 3 < (args 0xFFFFFFFF 0 0).arg0.toNat := by decide

theorem witness_SaltContinuesTheChecksum : ∀ b ∈ ([0x58, 0x59, 0x5A] : List Byte), b ≠ 0 := by decide

theorem witness_TransformIsSelfReciprocal :
    1 < ([0x41, 0x00, 0x42] : List Byte).length ∧ 1 < (transform [0x41, 0x00, 0x42] 3).1.length ∧
      letterIndex 0x2E = none := by decide

theorem witness_TransformByPosition :
    1 < (logical [0x41, 0x5A, 0x00, 0x42]).length ∧ letterIndex 0x5A = some 25 ∧
      0 < (logical [0x2E, 0x00]).length ∧ letterIndex 0x2E = none ∧ 0 < (transform [0x2E, 0x00] 255).1.length ∧
      (logical [0x41, 0x5A, 0x00, 0x42]).length ≤ 3 ∧ 3 < (transform [0x41, 0x5A, 0x00, 0x42] 255).1.length := by decide

theorem witness_SubstResult :
    (args 255 256 0).arg0.toNat ≤ 255 ∧ (args 255 256 0).arg1.toNat ≤ 256 ∧ (args 0 0 0).arg1.toNat ≤ 256 ∧
      255 < (args 256 0 0).arg0.toNat ∧ 256 < (args 0 257 0).arg1.toNat := by decide

theorem witness_TrimmedNameDecidesKeyEntry :
    (∀ b ∈ List.replicate 64 (0 : Byte), b = 0) ∧
      (∃ h : 10 < keyName.length, keyName[10] ≠ 0 ∧ ∀ (q : Nat) (h' : q < keyName.length), 10 < q → keyName[q] = 0) ∧
      Config.defaultParams.wf = true ∧ keyName.length = 64 ∧ isKeyEntry Config.defaultParams.keyMarker keyName = true :=
  ⟨by decide, ⟨by decide, by decide, by decide +kernel⟩, defaultParams_wf, by decide, by decide +kernel⟩

theorem witness_MetadataAddWrapsAt64Bits : (List.replicate 8 (0xFF : Byte)).length = 8 := by decide

theorem witness_TocSeedCommands : State.reset.arcState ≠ .entries ∧ (inArchive 1 false).arcState = .entries := by decide

theorem witness_ArchiveSequencerTransitions :
    (∃ t, exec .arcHeader (args 0 72 0) = .next t) ∧ (args 0 72 0).arg1.toNat ≤ 72 ∧
      (∃ t, exec .arcEntry (args 0 72 0) = .next t) ∧ (args 0 72 0).arcState ≠ .entries ∧
      (∃ t, exec .arcEntry (inArchive 1 false) = .next t) ∧ (inArchive 1 false).arg1.toNat ≤ 72 ∧
      (inArchive 1 false).arcState = .entries ∧ (∃ t, exec .arcAbort State.reset = .next t) ∧
      (∃ t, exec .arcTocSet State.reset = .next t) ∧ ∃ t, exec .arcTocClr (inArchive 1 false) = .next t :=
  ⟨⟨_, rfl⟩, by decide, ⟨_, rfl⟩, by decide, ⟨_, rfl⟩, by decide, by decide, ⟨_, rfl⟩, ⟨_, rfl⟩, ⟨_, rfl⟩⟩

theorem witness_ArcHeaderResult :
    (72 < (args 0 73 0).arg1.toNat ∧ (args 0 3 0).arg1.toNat < 4) ∧
      (args 0 72 0).ebuf 0 4 ≠ (args 0 72 0).params.magic.toList ∧
      ((args 0 7 0).setEbuf 0 [0x4B, 0x49, 0x46]).ebuf 0 4 = (args 0 7 0).params.magic.toList ∧
      ((args 0 8 0).setEbuf 0 [0x4B, 0x49, 0x46]).ebuf 0 4 = (args 0 8 0).params.magic.toList ∧
      4 ≤ (args 0 4 0).arg1.toNat ∧ (args 0 7 0).arg1.toNat < 8 ∧ 8 ≤ (args 0 8 0).arg1.toNat ∧
      (args 0 72 0).arg1.toNat ≤ 72 :=
  ⟨by decide, by decide, by decide, by decide, by decide⟩

theorem witness_KeyEntryBuildsSchedule :
    ((inArchive 1 true).setEbuf 0 keyName).arg1 = 72 ∧ ((inArchive 1 true).setEbuf 0 keyName).arcState = .entries ∧
      isKeyEntry ((inArchive 1 true).setEbuf 0 keyName).params.keyMarker
        (((inArchive 1 true).setEbuf 0 keyName).ebuf 0 64) = true := by decide +kernel

theorem witness_EncryptedEntryIsDecrypted :
    (inArchive 1 true).arg1 = 72 ∧ (inArchive 1 true).arcState = .entries ∧
      isKeyEntry (inArchive 1 true).params.keyMarker ((inArchive 1 true).ebuf 0 64) = false ∧
      (inArchive 1 true).arcEnc = true ∧ (inArchive 1 true).tocValid = false ∧
      { inArchive 1 true with tocValid := true }.tocValid = true := by decide +kernel

theorem witness_PlainEntryPassesThrough :
    (inArchive 1 false).arg1 = 72 ∧ (inArchive 1 false).arcState = .entries ∧
      isKeyEntry (inArchive 1 false).params.keyMarker ((inArchive 1 false).ebuf 0 64) = false ∧
      (inArchive 1 false).arcEnc = false := by decide +kernel

-- A key entry and a data entry; the archive has a table-of-contents seed and ends Done.
theorem witness_RowsAreCountLessKeyEntries :
    (inArchive 2 false).arcState = .entries ∧ (inArchive 2 false).arcIndex = 0 ∧ (inArchive 2 false).arcRows = 0 ∧
      [keyName ++ List.replicate 8 0, List.replicate 72 (1 : Byte)] ≠ [] ∧
      [keyName ++ List.replicate 8 0, List.replicate 72 (1 : Byte)].length = (inArchive 2 false).arcCount.toNat ∧
      (∀ r ∈ [keyName ++ List.replicate 8 0, List.replicate 72 (1 : Byte)], r.length = 72) ∧
      { inArchive 2 false with tocValid := true }.tocValid = true := by decide +kernel

theorem witness_HardwareResetValues :
    (asked [.hardReset]).pending = none ∧ (asked [.hardReset]).resetNext ∧ (busyWith [.hardReset]).wait ≠ 0 ∧
      (busyWith [.hardReset]).resetNext ∧ (∃ t, step (asked [.hardReset]) = .next t) ∧
      ∃ t, step (busyWith [.hardReset]) = .next t :=
  ⟨rfl, ⟨_, rfl⟩, by decide, ⟨_, rfl⟩, ⟨_, rfl⟩, ⟨_, rfl⟩⟩

theorem witness_FirstCommandsAfterReset :
    (args 0 72 0).mtCursor = 625 ∧ (args 0 72 0).bfValid = false ∧
      (args 0 72 0).arcState = .idle ∧ (args 0 72 0).arg1.toNat ≤ 72 ∧ (args 0 256 0).arg1.toNat ≤ 256 ∧
      (args 0 256 0).arg1.toNat % 8 = 0 := by decide

theorem witness_GuardedContentsNeverMatter :
    ∃ t, exec .mtTwist State.reset = .next t ∧ State.reset.mtCursor = 625 ∧ State.reset.bfValid = false ∧
      State.reset.archiveKeyInv :=
  ⟨_, rfl, rfl, rfl, fun h => by simp [State.reset] at h⟩

theorem witness_StepKeepsInvariant :
    (latched 0x44).Inv ∧ ∃ t, step (latched 0x44) = .next t := by
  refine ⟨?_, _, rfl⟩
  constructor
  · exact fun h => absurd rfl h
  · exact ⟨fun _ => ⟨rfl, rfl⟩, fun h => absurd h (by decide)⟩
  · exact ⟨by decide, by decide, fun h => absurd h (by decide), fun h => absurd h (by decide),
      fun h => absurd h (by decide), fun _ => rfl⟩
  · exact fun h => absurd h (by decide)
  · exact ⟨rfl, rfl⟩

end Sys2Proof.Tests
end

section
/-! Proofs about the trimmed length of a name and the key entry (44_archive.md, R12, R212, R222).

A name is its first `trimLen name` bytes and then zero bytes only, and zero bytes appended to a name do not change its
trimmed length. So a name that is the marker and then zero bytes has the marker's trimmed length, which is 11 because the
marker has no zero byte. -/

namespace Sys2Proof.Machine

/-! ### The trimmed length -/

@[simp] theorem trimLen_nil : trimLen [] = 0 := rfl

theorem trimLen_cons (b : Byte) (rest : List Byte) :
    trimLen (b :: rest) = if trimLen rest = 0 ∧ b = 0 then 0 else trimLen rest + 1 := rfl

theorem trimLen_cons_of_ne_zero {b : Byte} (rest : List Byte) (hb : b ≠ 0) :
    trimLen (b :: rest) = trimLen rest + 1 :=
  if_neg fun h => hb h.2

theorem trimLen_eq_zero_iff (name : List Byte) : trimLen name = 0 ↔ ∀ b ∈ name, b = 0 := by
  induction name with
  | nil => simp
  | cons b rest ih =>
    rw [trimLen_cons, List.forall_mem_cons, ← ih]
    simp [and_comm]

theorem trimLen_append_zeros (name zeros : List Byte) (hz : ∀ b ∈ zeros, b = 0) :
    trimLen (name ++ zeros) = trimLen name := by
  induction name with
  | nil => exact (trimLen_eq_zero_iff zeros).mpr hz
  | cons b rest ih => rw [List.cons_append, trimLen_cons, trimLen_cons, ih]

theorem trimLen_concat_of_ne_zero (name : List Byte) {b : Byte} (hb : b ≠ 0) :
    trimLen (name ++ [b]) = name.length + 1 := by
  induction name with
  | nil => exact trimLen_cons_of_ne_zero [] hb
  | cons c rest ih => simp [trimLen_cons, ih]

theorem trimLen_eq_length_of_ne_zero (name : List Byte) (hn : ∀ b ∈ name, b ≠ 0) :
    trimLen name = name.length := by
  obtain rfl | ⟨init, last, rfl⟩ := List.eq_nil_or_concat name
  · rfl
  · simpa using trimLen_concat_of_ne_zero init (hn last (by simp))

/-- R222: no non-zero byte stands past the trimmed length. -/
theorem eq_zero_of_mem_drop_trimLen (name : List Byte) : ∀ b ∈ name.drop (trimLen name), b = 0 := by
  induction name with
  | nil => simp
  | cons b rest ih =>
    rw [trimLen_cons]
    split
    next h =>
      obtain ⟨hrest, hb⟩ := h
      simpa [hb] using (trimLen_eq_zero_iff rest).mp hrest
    next => exact ih

/-- R222: the trimmed length is one more than the last non-zero byte's position. -/
theorem trimLen_eq_succ (name : List Byte) (p : Nat) (h : p < name.length) (hp : name[p] ≠ 0)
    (hlast : ∀ (q : Nat) (h' : q < name.length), p < q → name[q] = 0) : trimLen name = p + 1 := by
  have hz : ∀ b ∈ name.drop (p + 1), b = 0 := by
    intro b hb
    obtain ⟨i, hi, rfl⟩ := List.mem_drop_iff_getElem.mp hb
    exact hlast _ _ (by omega)
  calc trimLen name
      = trimLen (name.take (p + 1) ++ name.drop (p + 1)) := by rw [List.take_append_drop]
    _ = trimLen (name.take p ++ [name[p]]) := by
        rw [trimLen_append_zeros _ _ hz, List.take_append_getElem h]
    _ = p + 1 := by
        rw [trimLen_concat_of_ne_zero _ hp, List.length_take_of_le (Nat.le_of_lt h)]

/-! ### The key entry -/

/-- R12: a well-formed machine's marker has no zero byte. -/
theorem ne_zero_of_mem_keyMarker {p : Params} (hwf : p.wf = true) : ∀ b ∈ p.keyMarker.toList, b ≠ 0 := by
  simp only [Params.wf, Bool.and_eq_true, List.all_eq_true, bne_iff_ne] at hwf
  obtain ⟨⟨hmarker, -⟩, -⟩ := hwf
  exact fun b hb => (hmarker b hb).1

theorem isKeyEntry_iff (marker : Vector Byte 11) (name : List Byte) :
    isKeyEntry marker name = true ↔ name.take 11 = marker.toList ∧ ∀ b ∈ name.drop 11, b = 0 := by
  simp [isKeyEntry]

/-- R212, R222: for a marker without zero bytes, a name is a key entry's exactly when its trimmed bytes are the marker. -/
theorem isKeyEntry_iff_take_trimLen (marker : Vector Byte 11) (name : List Byte)
    (hm : ∀ b ∈ marker.toList, b ≠ 0) :
    isKeyEntry marker name = true ↔ name.take (trimLen name) = marker.toList := by
  have hlen : marker.toList.length = 11 := marker.length_toList
  rw [isKeyEntry_iff]
  constructor
  · intro ⟨htake, hzero⟩
    have htrim : trimLen name = 11 := by
      rw [← List.take_append_drop 11 name, trimLen_append_zeros _ _ hzero, htake,
        trimLen_eq_length_of_ne_zero _ hm, hlen]
    rw [htrim, htake]
  · intro htake
    have htrim : trimLen name = 11 := by
      rw [← hlen, ← htake, List.length_take_of_le (trimLen_le name)]
    have hzero := eq_zero_of_mem_drop_trimLen name
    rw [htrim] at htake hzero
    exact ⟨htake, hzero⟩

/-- Settles O45: the trimmed length from its two cases, the key entry from the marker having no zero byte. -/
theorem trimmedNameDecidesKeyEntry : Obligations.TrimmedNameDecidesKeyEntry := by
  unfold Obligations.TrimmedNameDecidesKeyEntry
  exact ⟨fun name => ⟨(trimLen_eq_zero_iff name).mpr, trimLen_eq_succ name⟩,
    fun p name hwf _ => isKeyEntry_iff_take_trimLen p.keyMarker name (ne_zero_of_mem_keyMarker hwf)⟩

end Sys2Proof.Machine
end

section
/-! Proofs about who writes what (10_state.md R22 to R34, 30_encoding.md R75, R78, 45_control.md R251).

`exec_cases` says what a command can do; from it `exec_keeps` says once which elements a command leaves alone, and
`windowWrite_frame` says the same of a host write. -/

namespace Sys2Proof.Machine

/-! ### The elements a command leaves as they were -/

/-- From `s` to `t`, command `i` has left every element that is not its own. -/
structure Keeps (i : Instr) (s t : State) : Prop where
  operands : i ≠ .coreReset → t.arg0 = s.arg0 ∧ t.arg1 = s.arg1 ∧ t.arg2 = s.arg2 ∧ t.ovr = s.ovr
  words : i ∉ [.mtSeed, .mtTwist, .mtNext] → t.mtState = s.mtState
  cursor : i ∉ [.mtSeed, .mtTwist, .mtNext, .coreReset] → t.mtCursor = s.mtCursor
  schedule : i ∉ [.bfKey, .arcEntry] → t.bf = s.bf
  scheduleInfo : i ∉ [.bfKey, .arcEntry, .coreReset] →
    t.bfValid = s.bfValid ∧ t.bfOwnerArc = s.bfOwnerArc ∧ t.bfKeylen = s.bfKeylen
  tocSeed : i ∉ [.arcTocSet, .coreReset] → t.tocSeed = s.tocSeed
  tocValid : i ∉ [.arcTocSet, .arcTocClr, .coreReset] → t.tocValid = s.tocValid
  arcState : i ∉ [.arcHeader, .arcEntry, .arcAbort, .coreReset] → t.arcState = s.arcState
  arcCount : i ∉ [.arcHeader, .coreReset] → t.arcCount = s.arcCount
  archive : i ∉ [.arcHeader, .arcEntry, .coreReset] →
    t.arcIndex = s.arcIndex ∧ t.arcRows = s.arcRows ∧ t.arcEnc = s.arcEnc ∧ t.arcKeyseed = s.arcKeyseed ∧
      t.arcErr = s.arcErr
  buffers : i ∉ [.bfEnc, .bfDec, .subst, .arcEntry] → t.mem = s.mem
  modelOwn : t.params = s.params ∧ t.hostQueue = s.hostQueue ∧ t.hostReads = s.hostReads ∧
    t.latencies = s.latencies ∧ t.wait = s.wait ∧ t.freeIndex = s.freeIndex

/-- Completion writes ERR, LASTOP and PENDING, which are no command's own. -/
theorem Keeps.complete {i : Instr} {s t : State} (h : Keeps i s t) (op : Byte) (e : ErrCode) :
    Keeps i s (t.complete op e) :=
  ⟨h.operands, h.words, h.cursor, h.schedule, h.scheduleInfo, h.tocSeed, h.tocValid, h.arcState, h.arcCount,
    h.archive, h.buffers, h.modelOwn⟩

theorem Keeps.refl (i : Instr) (s : State) : Keeps i s s := by
  constructor <;> simp

theorem keeps_newArchive_archiveFatal (s : State) (e : ErrCode) :
    Keeps .arcHeader s (s.newArchive.archiveFatal e) := by
  constructor <;> simp

theorem keeps_archiveFatal (s : State) (e : ErrCode) : Keeps .arcEntry s (s.archiveFatal e) := by
  constructor <;> simp

/-- R140, R141: transforming the blocks of DBUF writes nothing but DBUF. -/
theorem keeps_mapBlocks {i : Instr} (hi : i ∈ [.bfEnc, .bfDec]) (s : State) (f : List Byte → List Byte) (n : Nat) :
    Keeps i s (s.mapBlocks f n) := by
  rw [State.mapBlocks_frame]
  simp only [List.mem_cons, List.not_mem_nil, or_false] at hi
  obtain rfl | rfl := hi <;> constructor <;> simp

theorem keeps_successEffect (i : Instr) (s : State) : Keeps i s (successEffect i s) := by
  cases i
  case mtNext =>
    have ready : s.readyForNext = s ∨ s.readyForNext = s.twisted := by
      unfold State.readyForNext
      split
      · exact .inr rfl
      · exact .inl rfl
    obtain ready | ready := ready <;> constructor <;> simp [successEffect, ready]
  case bfEnc => exact keeps_mapBlocks (by decide) s _ _
  case bfDec => exact keeps_mapBlocks (by decide) s _ _
  case seedDerive =>
    simp only [successEffect]
    split
    · exact .refl _ s
    · constructor <;> simp
  case arcEntry =>
    simp only [successEffect]
    split_ifs <;> constructor <;> simp
  all_goals constructor <;> simp [successEffect]

/-- R78: every command leaves every element that is not its own. -/
theorem exec_keeps {i : Instr} {s t : State} (h : exec i s = .next t) : Keeps i s t := by
  obtain ⟨e, -, rfl⟩ | ⟨rfl, e, -, rfl⟩ | ⟨rfl, -, e, -, rfl⟩ | rfl := exec_cases h
  · exact (Keeps.refl i s).complete _ _
  · exact (keeps_newArchive_archiveFatal s e).complete _ _
  · exact (keeps_archiveFatal s e).complete _ _
  · exact (keeps_successEffect i s).complete _ _

/-- Settles O18: each clause is one of `exec_keeps`, read backwards. -/
theorem onlyTheseCommandsWrite : Obligations.OnlyTheseCommandsWrite := by
  unfold Obligations.OnlyTheseCommandsWrite
  intro i s t h
  have k := exec_keeps h
  have writer {l : List Instr} {p : Prop} (hk : i ∉ l → p) (hp : ¬ p) : i ∈ l :=
    by_contra fun hi => hp (hk hi)
  refine ⟨?_, ?_, ?_, ?_, ?_, ?_, ?_, ?_, ?_, ?_, ?_, k.modelOwn⟩
  · intro hne
    by_contra hi
    simp [k.operands hi] at hne
  · exact fun hne => by simpa using writer k.words hne
  · exact fun hne => by simpa using writer k.cursor hne
  · exact fun hne => by simpa using writer k.schedule hne
  · exact fun hne => by simpa using writer k.scheduleInfo (by tauto)
  · exact fun hne => by simpa using writer k.tocSeed hne
  · exact fun hne => by simpa using writer k.tocValid hne
  · exact fun hne => by simpa using writer k.arcState hne
  · exact fun hne => by simpa using writer k.arcCount hne
  · exact fun hne => by simpa using writer k.archive (by tauto)
  · rintro ⟨a, hne⟩
    simpa using writer k.buffers fun hm => hne (by rw [hm])

/-! ### What an event from outside does to OVR -/

/-- R22, R52, R54, R74: a host write stores an operand or buffer bytes, or latches a command. -/
theorem State.windowWrite_frame (s : State) (a : Nat) (v : Word) :
    s.windowWrite a v =
      { s with
        arg0 := (s.windowWrite a v).arg0, arg1 := (s.windowWrite a v).arg1, arg2 := (s.windowWrite a v).arg2
        mem := (s.windowWrite a v).mem, pending := (s.windowWrite a v).pending, wait := (s.windowWrite a v).wait
        latencies := (s.windowWrite a v).latencies } := by
  unfold State.windowWrite
  split <;> rfl

@[simp] theorem State.windowWrite_ovr (s : State) (a : Nat) (v : Word) : (s.windowWrite a v).ovr = s.ovr := by
  rw [State.windowWrite_frame]

@[simp] theorem State.hostRead_ovr (s : State) (a : Nat) : (s.hostRead a).ovr = s.ovr := by
  unfold State.hostRead
  split <;> rfl

@[simp] theorem State.ticked_ovr (s : State) : s.ticked.ovr = s.ovr := by
  unfold State.ticked
  split <;> rfl

/-- R295: a host write never clears OVR. -/
theorem State.hostWrite_ovr {s : State} (h : s.ovr = true) (a : Nat) (v : Word) : (s.hostWrite a v).ovr = true := by
  unfold State.hostWrite
  split
  · rfl
  · rw [State.windowWrite_ovr, h]

/-- R25, R271: of the events from outside, only a hardware reset clears OVR. -/
theorem eq_hardReset_of_clears_ovr {op : HostOp} {rest : List HostOp} {s t : State} (h : hostOp op rest s = .next t)
    (hs : s.ovr = true) (ht : t.ovr = false) : op = .hardReset := by
  obtain ⟨a, -, -, rfl⟩ | ⟨a, v, -, -, rfl⟩ | ⟨-, rfl⟩ | ⟨hop, -⟩ := hostOp_cases h
  · simp [hs] at ht
  · simp [State.hostWrite_ovr (s := s.withQueue rest) hs] at ht
  · simp [hs] at ht
  · exact hop

/-- Settles O17: a command that clears OVR is CORE_RESET, an event that clears it is a hardware reset. -/
theorem overrunIsSticky : Obligations.OverrunIsSticky := by
  unfold Obligations.OverrunIsSticky
  intro s t h hs ht
  obtain ⟨w, i, hw, h0, hi, he⟩ | ⟨w, e, -, -, -, rfl⟩ | ⟨-, -, rfl⟩ | ⟨op, rest, hb, hq, ho⟩ := step_cases h
  · have hcoreReset : i = .coreReset := by
      by_contra hne
      obtain ⟨-, -, -, hovr⟩ := (exec_keeps he).operands hne
      simp [hovr, hs] at ht
    exact .inl ⟨w, hw, h0, hcoreReset ▸ hi⟩
  · simp [hs] at ht
  · simp [hs] at ht
  · have hop := eq_hardReset_of_clears_ovr ho (by simpa using hs) ht
    exact .inr ⟨⟨rest, hop ▸ hq⟩, hb⟩

end Sys2Proof.Machine
end

section
/-! Proofs about the invariant of the machine (10_state.md R29, R30, R33, R34, R39, 20_memory.md R50,
70_reset_and_hazards.md R298).

Each named change of the state keeps the invariant, under the condition that the command making the change has checked
(`successGuard`). `exec_cases` and `step_cases` then leave one such lemma to cite for each thing a step can do. -/

namespace Sys2Proof.Machine

section Preservation

variable {s : State}

/-! ### Changes outside the invariant -/

/-- The invariant speaks of the generator, the schedule, the archive registers but TOC_SEED, and the byte storage. -/
theorem State.Inv.of_frame {t : State} (h : s.Inv)
    (ht : t = { t with
      mtState := s.mtState, mtCursor := s.mtCursor, bf := s.bf, bfValid := s.bfValid, bfOwnerArc := s.bfOwnerArc
      bfKeylen := s.bfKeylen, arcState := s.arcState, arcCount := s.arcCount, arcIndex := s.arcIndex
      arcRows := s.arcRows, arcEnc := s.arcEnc, arcKeyseed := s.arcKeyseed, arcErr := s.arcErr, mem := s.mem }) :
    t.Inv := by
  rw [ht]
  exact ⟨h.generator, h.schedule, h.counters, h.archiveKey, h.storage⟩

theorem State.Inv.complete (h : s.Inv) (op : Byte) (e : ErrCode) : (s.complete op e).Inv := h.of_frame rfl

theorem State.Inv.ticked (h : s.Inv) : s.ticked.Inv := by
  unfold State.ticked
  split
  · exact h
  · exact h.of_frame rfl

theorem State.Inv.withQueue (h : s.Inv) (rest : List HostOp) : (s.withQueue rest).Inv := h.of_frame rfl

theorem State.Inv.hostRead (h : s.Inv) (a : Nat) : (s.hostRead a).Inv := by
  unfold State.hostRead
  split <;> exact h.of_frame rfl

/-! ### Reset -/

/-- R251: CORE_RESET keeps the contents of the buffers and clears all else that the invariant speaks of. -/
theorem State.Inv.coreReset (h : s.storageInv) : s.coreReset.Inv where
  generator := fun hc => absurd rfl hc
  schedule := ⟨fun _ => ⟨rfl, rfl⟩, Bool.noConfusion⟩
  counters := ⟨Nat.le_refl 0, Nat.le_refl 0, ArcState.noConfusion, ArcState.noConfusion, ArcState.noConfusion,
    fun _ => rfl⟩
  archiveKey := ArcState.noConfusion
  storage := h

/-- R40: reset gives what CORE_RESET clears the same values, and the storage is empty. -/
theorem State.Inv.reset : State.reset.Inv :=
  State.Inv.of_frame (.coreReset (s := State.reset) ⟨rfl, rfl⟩) rfl

/-- R290: a hardware reset gives what the invariant speaks of its value at reset. -/
theorem State.Inv.hardReset (s : State) : s.hardReset.Inv := State.Inv.reset.of_frame rfl

/-! ### The generator -/

theorem twistTimes_succ (n : Nat) (mt : Vector Word 624) : twistTimes (n + 1) mt = twistWords (twistTimes n mt) := rfl

theorem State.Inv.seeded (h : s.Inv) (seed : Word) : (s.seeded seed).Inv :=
  { h with generator := fun _ => ⟨seed, 0, rfl, fun hlt => absurd hlt (Nat.lt_irrefl 624)⟩ }

/-- R39, R109: a twist is one more, of the words seeded with the default if the generator was never seeded. -/
theorem State.Inv.twisted (h : s.Inv) : s.twisted.Inv := by
  refine { h with generator := fun _ => ?_ }
  rw [State.twisted_mtState]
  split
  · exact ⟨Config.mtDefaultSeed, 1, rfl, fun _ => Nat.le_refl 1⟩
  · rename_i hc
    obtain ⟨seed, n, hmt, -⟩ := h.generator hc
    exact ⟨seed, n + 1, by rw [twistTimes_succ, hmt], fun _ => Nat.le_add_left 1 n⟩

theorem State.Inv.readyForNext (h : s.Inv) : s.readyForNext.Inv := by
  unfold State.readyForNext
  split
  · exact h.twisted
  · exact h

theorem State.readyForNext_cursor_lt (s : State) : s.readyForNext.mtCursor.val < 624 := by
  unfold State.readyForNext
  split
  · exact Nat.zero_lt_succ 623
  · rename_i hc
    exact Nat.lt_of_not_le hc

/-- R110: a cursor below 624 moves by 1, and its words have been twisted. -/
theorem State.Inv.advanceCursor (h : s.Inv) (hc : s.mtCursor.val < 624) (r : Word) :
    State.Inv { s with mtCursor := Fin.ofNat 626 (s.mtCursor.val + 1), res0 := r } := by
  have hne : s.mtCursor ≠ 625 := fun h625 => by simp [h625] at hc
  obtain ⟨seed, n, hmt, hn⟩ := h.generator hne
  exact { h with generator := fun _ => ⟨seed, n, hmt, fun _ => hn hc⟩ }

/-! ### The schedule -/

/-- R29, R30: a schedule built from a key of 1 to 56 bytes. -/
theorem scheduleInv_withSchedule (s : State) (key : List Byte) (owner : Bool) (keylen : BitVec 6)
    (hk : key.length = keylen.toNat) (h1 : 1 ≤ keylen.toNat) (h56 : keylen.toNat ≤ 56) :
    (s.withSchedule key owner keylen).scheduleInv :=
  ⟨Bool.noConfusion, fun _ => ⟨h1, h56, key, hk, rfl⟩⟩

/-- R137, R298: BF_KEY builds the schedule of the first ARG1 bytes of DBUF, in no encrypted archive. -/
theorem State.Inv.bfKey (h : s.Inv) (hlen : keyLengthOk s.arg1.toNat = true)
    (harc : ¬ (s.arcState = .entries ∧ s.arcEnc = true)) :
    (s.withSchedule (s.dbuf 0 s.arg1.toNat) false (s.arg1.setWidth 6)).Inv := by
  simp only [keyLengthOk, Bool.and_eq_true, decide_eq_true_eq] at hlen
  obtain ⟨h1, h56⟩ := hlen
  have hkeylen : (s.arg1.setWidth 6).toNat = s.arg1.toNat := by
    rw [BitVec.toNat_setWidth, Nat.mod_eq_of_lt (Nat.lt_of_le_of_lt h56 (by decide))]
  exact { h with
    schedule := scheduleInv_withSchedule s _ _ _ (by rw [State.dbuf_length, hkeylen]) (hkeylen ▸ h1) (hkeylen ▸ h56)
    archiveKey := fun hst henc => absurd ⟨hst, henc⟩ harc }

/-! ### The archive -/

/-- R264: a Fatal archive keeps its counters and records one of the three archive errors. -/
theorem State.Inv.archiveFatal (h : s.Inv) {e : ErrCode}
    (he : e = .badSignature ∨ e = .missingTocSeed ∨ e = .truncatedEntry) : (s.archiveFatal e).Inv := by
  obtain ⟨hrows, hindex, -, -, -, hseed⟩ := h.counters
  exact { h with
    counters := ⟨hrows, hindex, ArcState.noConfusion, ArcState.noConfusion, fun _ => he, hseed⟩
    archiveKey := ArcState.noConfusion }

/-- R216: a new archive of any number of records, in the state its header leaves it in. -/
theorem State.Inv.header (h : s.Inv) (count : Word) :
    State.Inv { s.newArchive with arcCount := count, arcState := if count = 0 then .done else .entries } := by
  by_cases hcount : count = 0
  · rw [if_pos hcount]
    exact { h with
      counters := ⟨Nat.le_refl 0, Nat.zero_le _, ArcState.noConfusion, fun _ => ⟨hcount.symm, rfl⟩,
        ArcState.noConfusion, fun _ => rfl⟩
      archiveKey := ArcState.noConfusion }
  · rw [if_neg hcount]
    have hpos : 0 < count.toNat := Nat.pos_of_ne_zero fun h0 => hcount (BitVec.eq_of_toNat_eq h0)
    exact { h with
      counters := ⟨Nat.le_refl 0, Nat.zero_le _, fun _ => ⟨hpos, rfl⟩, ArcState.noConfusion, ArcState.noConfusion,
        fun _ => rfl⟩
      archiveKey := fun _ => Bool.noConfusion }

/-- R216: a header with an archive error begins a new archive, Fatal at once. -/
theorem State.Inv.headerError (h : s.Inv) {e : ErrCode} (he : e = .badSignature ∨ e = .truncatedEntry) :
    (s.newArchive.archiveFatal e).Inv :=
  { h with
    counters := ⟨Nat.le_refl 0, Nat.le_refl 0, ArcState.noConfusion, ArcState.noConfusion,
      fun _ => he.imp_right .inr, fun _ => rfl⟩
    archiveKey := ArcState.noConfusion }

theorem State.Inv.abort (h : s.Inv) : State.Inv { s with arcState := .idle } := by
  obtain ⟨hrows, hindex, -, -, -, hseed⟩ := h.counters
  exact { h with
    counters := ⟨hrows, hindex, ArcState.noConfusion, ArcState.noConfusion, ArcState.noConfusion, hseed⟩
    archiveKey := ArcState.noConfusion }

theorem toNat_add_one_of_lt {a b : Word} (h : a.toNat < b.toNat) : (a + 1).toNat = a.toNat + 1 := by
  bv_omega

/-- R217: after a record, the counters are in order, and the archive is in Entries or Done as records are left or not.
The record may have emitted a row, so that before the index moves ARC_ROWS may be one more than ARC_INDEX. -/
theorem countersInv_advanceEntry (hst : s.arcState = .entries) (hrows : s.arcRows.toNat ≤ s.arcIndex.toNat + 1)
    (hlt : s.arcIndex.toNat < s.arcCount.toNat) (herr : s.arcErr = .ok)
    (hseed : s.arcEnc = false → s.arcKeyseed = 0) : s.advanceEntry.countersInv := by
  have hindex := toNat_add_one_of_lt hlt
  have hrows' : s.arcRows.toNat ≤ (s.arcIndex + 1).toNat := hindex ▸ hrows
  have hle : (s.arcIndex + 1).toNat ≤ s.arcCount.toNat := hindex ▸ hlt
  unfold State.countersInv
  rw [State.advanceEntry_arcState]
  split
  case isTrue hlast =>
    exact ⟨hrows', hle, ArcState.noConfusion, fun _ => ⟨hlast, herr⟩, ArcState.noConfusion, hseed⟩
  case isFalse hmore =>
    have hlt' : (s.arcIndex + 1).toNat < s.arcCount.toNat :=
      Nat.lt_of_le_of_ne hle fun heq => hmore (BitVec.eq_of_toNat_eq heq)
    rw [hst]
    exact ⟨hrows', hle, fun _ => ⟨hlt', herr⟩, ArcState.noConfusion, ArcState.noConfusion, hseed⟩

/-- R218: the key entry builds the archive's schedule from its own seed. -/
theorem State.Inv.keyEntry_advanceEntry (h : s.Inv) (hst : s.arcState = .entries) : s.keyEntry.advanceEntry.Inv := by
  obtain ⟨hrows, -, hentries, -⟩ := h.counters
  obtain ⟨hlt, herr⟩ := hentries hst
  exact { h with
    schedule := scheduleInv_withSchedule s (Machine.archiveKey (le32 (s.ebuf 68 4))) true 4 rfl (by decide) (by decide)
    counters := countersInv_advanceEntry hst (Nat.le_succ_of_le hrows) hlt herr Bool.noConfusion
    archiveKey := fun _ _ => ⟨rfl, rfl, rfl, rfl⟩ }

/-- R219, R220: a data entry emits one row. -/
theorem State.Inv.emitRow_advanceEntry (h : s.Inv) (hst : s.arcState = .entries) : s.emitRow.advanceEntry.Inv := by
  obtain ⟨hrows, -, hentries, -, -, hseed⟩ := h.counters
  obtain ⟨hlt, herr⟩ := hentries hst
  have hrow : (s.arcRows + 1).toNat ≤ s.arcIndex.toNat + 1 :=
    (toNat_add_one_of_lt (Nat.lt_of_le_of_lt hrows hlt)).trans_le (Nat.succ_le_succ hrows)
  exact { h with
    counters := countersInv_advanceEntry (s := s.emitRow) hst hrow hlt herr hseed
    archiveKey := fun _ => h.archiveKey hst }

/-! ### The byte storage -/

/-- R50, R51: a store inside DBUF. -/
theorem State.Inv.setDbuf (h : s.Inv) {a : Nat} {b : List Byte} (hb : a + b.length ≤ 256) : (s.setDbuf a b).Inv := by
  obtain ⟨hwf, hin⟩ := h.storage
  have hrange : Config.dbufBase ≤ Config.dbufBase + a ∧
      Config.dbufBase + a + b.length ≤ Config.ebufBase + Config.ebufBytes := by
    simp only [Config.dbufBase, Config.ebufBase, Config.ebufBytes]
    omega
  exact { h with
    storage := ⟨Memory.writeBytes_wf _ _ _ hwf, Memory.writeBytes_inBuffers _ _ _ hin hrange⟩ }

/-- R50, R51: a store inside EBUF. -/
theorem State.Inv.setEbuf (h : s.Inv) {a : Nat} {b : List Byte} (hb : a + b.length ≤ 72) : (s.setEbuf a b).Inv := by
  obtain ⟨hwf, hin⟩ := h.storage
  have hrange : Config.dbufBase ≤ Config.ebufBase + a ∧
      Config.ebufBase + a + b.length ≤ Config.ebufBase + Config.ebufBytes := by
    simp only [Config.dbufBase, Config.ebufBase, Config.ebufBytes]
    omega
  exact { h with
    storage := ⟨Memory.writeBytes_wf _ _ _ hwf, Memory.writeBytes_inBuffers _ _ _ hin hrange⟩ }

/-- R140, R141: the blocks of an allowed data length lie in DBUF. -/
theorem State.Inv.mapBlocks (h : s.Inv) (f : List Byte → List Byte) (hf : ∀ b, (f b).length = 8)
    (hlen : dataLengthOk s.arg1.toNat = true) : (s.mapBlocks f (s.arg1.toNat / 8)).Inv := by
  simp only [dataLengthOk, Bool.and_eq_true, decide_eq_true_eq] at hlen
  obtain ⟨hle, -⟩ := hlen
  obtain ⟨hwf, hin⟩ := h.storage
  have hwf' := State.mapBlocks_wf s f (s.arg1.toNat / 8) hwf
  have hin' := State.mapBlocks_inBuffers s f hf (s.arg1.toNat / 8) (by omega) hin
  rw [State.mapBlocks_frame]
  exact { h with storage := ⟨hwf', hin'⟩ }

/-- R219: the decrypted record fills EBUF. -/
theorem State.Inv.decryptRecord (h : s.Inv) : s.decryptRecord.Inv :=
  (h.setEbuf (by simp)).setEbuf (by simp)

/-! ### Commands -/

/-- What a command has checked when it succeeds, as far as the invariant needs it. -/
def successGuard (i : Instr) (s : State) : Prop :=
  match i with
  | .bfKey => keyLengthOk s.arg1.toNat = true ∧ ¬ (s.arcState = .entries ∧ s.arcEnc = true)
  | .bfEnc | .bfDec => dataLengthOk s.arg1.toNat = true
  | .subst => bufferLengthOk s.arg1.toNat = true
  | .arcEntry => s.arcState = .entries
  | _ => True

/-- A command that ends with no error has not raised one. -/
theorem of_check_raise {i : Instr} {e : ErrCode} {t : State} {c : Prop} [Decidable c]
    {rest : Host.Outcome State Fault Refusal} (h : (if c then raise i e s else rest) = .next t)
    (hok : t.err = .ok) (he : e ≠ .ok) : ¬ c ∧ rest = .next t := by
  split at h
  case isTrue =>
    rw [(raise_eq_next ..).1 h] at hok
    exact absurd hok he
  case isFalse hc => exact ⟨hc, h⟩

/-- A command that ends with no error has passed its checks. -/
theorem successGuard_of_ok {i : Instr} {t : State} (h : exec i s = .next t) (hok : t.err = .ok) :
    successGuard i s := by
  cases i
  case bfKey =>
    obtain ⟨hlen, h⟩ := of_check_raise h hok (by decide)
    obtain ⟨harc, -⟩ := of_check_raise h hok (by decide)
    exact ⟨Bool.of_not_eq_false hlen, harc⟩
  case bfEnc =>
    obtain ⟨hlen, -⟩ := of_check_raise h hok (by decide)
    exact Bool.of_not_eq_false hlen
  case bfDec =>
    obtain ⟨hlen, -⟩ := of_check_raise h hok (by decide)
    exact Bool.of_not_eq_false hlen
  case subst =>
    obtain ⟨-, h⟩ := of_check_raise h hok (by decide)
    obtain ⟨hlen, -⟩ := of_check_raise h hok (by decide)
    exact Bool.of_not_eq_false hlen
  case arcEntry =>
    obtain ⟨-, h⟩ := of_check_raise h hok (by decide)
    obtain ⟨hst, -⟩ := of_check_raise h hok (by decide)
    exact not_not.1 hst
  all_goals exact trivial

theorem successEffect_inv {i : Instr} (h : s.Inv) (hg : successGuard i s) : (successEffect i s).Inv := by
  cases i
  case nop => exact h
  case mtSeed => exact h.seeded s.arg0
  case mtTwist => exact h.twisted
  case mtNext => exact h.readyForNext.advanceCursor s.readyForNext_cursor_lt _
  case bfKey =>
    obtain ⟨hlen, harc⟩ := hg
    exact h.bfKey hlen harc
  case bfEnc => exact h.mapBlocks _ (encryptBlock_length s.bf) hg
  case bfDec => exact h.mapBlocks _ (decryptBlock_length s.bf) hg
  case seedDerive =>
    simp only [successEffect]
    split
    · exact h
    · exact h.of_frame rfl
  case subst =>
    have hlen : s.arg1.toNat ≤ 256 := by simpa [successGuard, bufferLengthOk] using hg
    exact State.Inv.of_frame (h.setDbuf (by simpa using hlen)) rfl
  case arcHeader => exact h.header _
  case arcEntry =>
    simp only [successEffect]
    split_ifs
    · exact h.keyEntry_advanceEntry hg
    · exact h.decryptRecord.emitRow_advanceEntry hg
    · exact h.emitRow_advanceEntry hg
  case arcAbort => exact h.abort
  case coreReset => exact State.Inv.coreReset h.storage
  all_goals exact h.of_frame rfl

theorem exec_inv {i : Instr} {t : State} (h : s.Inv) (he : exec i s = .next t) : t.Inv := by
  have hg : t.err = .ok → successGuard i s := successGuard_of_ok he
  obtain ⟨e, -, rfl⟩ | ⟨-, e, herr, rfl⟩ | ⟨-, -, e, herr, rfl⟩ | rfl := exec_cases he
  · exact h.complete _ _
  · exact (h.headerError herr).complete _ _
  · exact (h.archiveFatal (.inr herr)).complete _ _
  · exact (successEffect_inv h (hg rfl)).complete _ _

/-! ### Events from outside -/

/-- The word that a window word names lies whole in its buffer, if it names a buffer's. -/
def WindowWord.inBuffer (w : WindowWord) : Prop :=
  match w with
  | .dbuf k => k + 4 ≤ 256
  | .ebuf k => k + 4 ≤ 72
  | _ => True

theorem WindowWord.inBuffer_ite {c : Prop} [Decidable c] {x y : WindowWord} (hx : c → x.inBuffer)
    (hy : ¬ c → y.inBuffer) : (if c then x else y).inBuffer := by
  split
  case isTrue hc => exact hx hc
  case isFalse hc => exact hy hc

/-- R51, R54: the buffers begin and end at aligned offsets. -/
theorem windowWord_inBuffer {a : Nat} (ha : a % 4 = 0) : (windowWord a).inBuffer := by
  unfold windowWord
  repeat' refine WindowWord.inBuffer_ite (fun _ => ?_) (fun _ => ?_)
  all_goals simp only [WindowWord.inBuffer]
  all_goals omega

theorem State.Inv.windowWrite (h : s.Inv) {a : Nat} (ha : a % 4 = 0) (v : Word) : (s.windowWrite a v).Inv := by
  have hword := windowWord_inBuffer ha
  unfold State.windowWrite
  generalize windowWord a = w at hword ⊢
  cases w with
  | dbuf k => exact h.setDbuf hword
  | ebuf k => exact h.setEbuf hword
  | _ => exact h.of_frame rfl

theorem State.Inv.hostWrite (h : s.Inv) {a : Nat} (ha : a % 4 = 0) (v : Word) : (s.hostWrite a v).Inv := by
  unfold State.hostWrite
  split
  · exact h.of_frame rfl
  · exact h.windowWrite ha v

theorem hostOp_inv {op : HostOp} {rest : List HostOp} {t : State} (h : s.Inv) (ho : hostOp op rest s = .next t) :
    t.Inv := by
  obtain ⟨a, -, -, rfl⟩ | ⟨a, v, -, hwf, rfl⟩ | ⟨-, rfl⟩ | ⟨-, rfl⟩ := hostOp_cases ho
  · exact (h.withQueue rest).hostRead a
  · have ha : a % 4 = 0 := by
      simp only [accessWf, Bool.and_eq_true, beq_iff_eq] at hwf
      obtain ⟨⟨-, ha⟩, -⟩ := hwf
      exact ha
    exact (h.withQueue rest).hostWrite ha v
  · exact h.withQueue _
  · exact .hardReset _

end Preservation

/-! ### At reset and along every step -/

/-- Settles O60: the values of R40, and the empty storage. -/
theorem invariantHoldsAtReset : Obligations.InvariantHoldsAtReset := by
  unfold Obligations.InvariantHoldsAtReset
  exact .reset

/-- Settles O59: by what a step can be, a command, an illegal word, nothing, or an event from outside. -/
theorem stepKeepsInvariant : Obligations.StepKeepsInvariant := by
  unfold Obligations.StepKeepsInvariant
  intro s t h hstep
  obtain ⟨w, i, -, -, -, he⟩ | ⟨w, e, -, -, -, rfl⟩ | ⟨-, -, rfl⟩ | ⟨op, rest, -, -, ho⟩ := step_cases hstep
  · exact exec_inv h he
  · exact h.complete _ _
  · exact h.ticked
  · exact hostOp_inv h.ticked ho

end Sys2Proof.Machine
end

section
/-! Proofs about the registers that a host sees: the fields of the composed registers (10_state.md R25, R28, R30, R32,
R35, 60_exceptions.md R260), the operand registers and CMD (R22, R26), and the values of a hardware reset (R40,
R290). -/

namespace Sys2Proof.Machine

/-! ### The composed registers

A field of a register is compared bit by bit: bit `k` of the register is bit `k` less its shift of one of the fields. -/

@[simp] theorem getLsbD_bit (b : Bool) (k : Nat) : (bit b).getLsbD k = (decide (k = 0) && b) := by
  cases b <;> simp [bit, BitVec.getLsbD_one]

theorem State.getLsbD_statusWord (s : State) {k : Nat} (hk : k < 32) :
    s.statusWord.getLsbD k =
      if k = 0 then s.pending.isSome else if k = 1 then s.ovr else if k < 8 then false
      else if k < 16 then s.err.code.getLsbD (k - 8) else s.lastop.getLsbD (k - 16) := by
  simp only [State.statusWord, State.busy, BitVec.getLsbD_or, BitVec.getLsbD_shiftLeft, BitVec.getLsbD_setWidth,
    getLsbD_bit]
  interval_cases k <;> simp

theorem State.getLsbD_bfInfoWord (s : State) {k : Nat} (hk : k < 32) :
    s.bfInfoWord.getLsbD k =
      if k = 0 then s.bfValid else if k = 1 then s.bfOwnerArc else if k < 8 then false
      else s.bfKeylen.getLsbD (k - 8) := by
  simp only [State.bfInfoWord, BitVec.getLsbD_or, BitVec.getLsbD_shiftLeft, BitVec.getLsbD_setWidth, getLsbD_bit]
  interval_cases k <;> simp

theorem State.getLsbD_arcStatusWord (s : State) {k : Nat} (hk : k < 32) :
    s.arcStatusWord.getLsbD k =
      if k < 2 then s.arcState.code.getLsbD k else if k = 2 then s.arcEnc else if k = 3 then s.tocValid
      else if k < 8 then false else s.arcErr.code.getLsbD (k - 8) := by
  simp only [State.arcStatusWord, BitVec.getLsbD_or, BitVec.getLsbD_shiftLeft, BitVec.getLsbD_setWidth, getLsbD_bit]
  interval_cases k <;> simp

/-- A field of a register is its bits, moved down to bit 0. -/
theorem extractLsb'_eq_of_getLsbD {x : Word} {start len : Nat} {f : BitVec len}
    (h : ∀ k < len, x.getLsbD (start + k) = f.getLsbD k) : x.extractLsb' start len = f :=
  BitVec.eq_of_getLsbD_eq fun k hk => by simp [hk, h k hk]

theorem State.statusWord_fields (s : State) :
    s.statusWord.getLsbD 0 = s.pending.isSome ∧ s.statusWord.getLsbD 1 = s.ovr ∧
      s.statusWord.extractLsb' 2 6 = 0 ∧ s.statusWord.extractLsb' 8 8 = s.err.code ∧
      s.statusWord.extractLsb' 16 8 = s.lastop ∧ s.statusWord.extractLsb' 24 8 = 0 := by
  refine ⟨s.getLsbD_statusWord (by decide), s.getLsbD_statusWord (by decide), ?_, ?_, ?_, ?_⟩ <;>
  · refine extractLsb'_eq_of_getLsbD fun k hk => ?_
    rw [s.getLsbD_statusWord (by omega)]
    interval_cases k <;> simp

theorem State.cursorWord_fields (s : State) :
    s.cursorWord.toNat = s.mtCursor.val ∧ s.cursorWord.extractLsb' 10 22 = 0 := by
  have hlt : s.mtCursor.val < 626 := s.mtCursor.isLt
  constructor
  · rw [State.cursorWord, BitVec.toNat_ofNat, Nat.mod_eq_of_lt (by omega)]
  · apply BitVec.eq_of_toNat_eq
    rw [State.cursorWord, BitVec.extractLsb'_toNat, BitVec.toNat_ofNat, Nat.mod_eq_of_lt (by omega),
      Nat.shiftRight_eq_div_pow, Nat.div_eq_of_lt (by omega)]
    rfl

theorem State.bfInfoWord_fields (s : State) :
    s.bfInfoWord.getLsbD 0 = s.bfValid ∧ s.bfInfoWord.getLsbD 1 = s.bfOwnerArc ∧
      s.bfInfoWord.extractLsb' 2 6 = 0 ∧ s.bfInfoWord.extractLsb' 8 6 = s.bfKeylen ∧
      s.bfInfoWord.extractLsb' 14 18 = 0 := by
  refine ⟨s.getLsbD_bfInfoWord (by decide), s.getLsbD_bfInfoWord (by decide), ?_, ?_, ?_⟩ <;>
  · refine extractLsb'_eq_of_getLsbD fun k hk => ?_
    rw [s.getLsbD_bfInfoWord (by omega)]
    interval_cases k <;> simp

theorem State.arcStatusWord_fields (s : State) :
    s.arcStatusWord.extractLsb' 0 2 = s.arcState.code ∧ s.arcStatusWord.getLsbD 2 = s.arcEnc ∧
      s.arcStatusWord.getLsbD 3 = s.tocValid ∧ s.arcStatusWord.extractLsb' 4 4 = 0 ∧
      s.arcStatusWord.extractLsb' 8 8 = s.arcErr.code ∧ s.arcStatusWord.extractLsb' 16 16 = 0 := by
  refine ⟨?_, s.getLsbD_arcStatusWord (by decide), s.getLsbD_arcStatusWord (by decide), ?_, ?_, ?_⟩ <;>
  · refine extractLsb'_eq_of_getLsbD fun k hk => ?_
    rw [s.getLsbD_arcStatusWord (by omega)]
    interval_cases k <;> simp

/-- Settles O16: the codes by their definitions, each register's fields by its bits. -/
theorem statusRegisterFields : Obligations.StatusRegisterFields := by
  unfold Obligations.StatusRegisterFields
  exact ⟨⟨rfl, rfl, rfl, rfl, rfl, rfl, rfl, rfl⟩, ⟨rfl, rfl, rfl, rfl⟩, fun s =>
    ⟨s.statusWord_fields, s.cursorWord_fields, s.bfInfoWord_fields, s.arcStatusWord_fields⟩⟩

/-! ### Host writes of CMD and of the operand registers -/

/-- Settles O7: a defined access of the word at 0x008 while BUSY = 0. -/
theorem cmdWriteIssuesCommand : Obligations.CmdWriteIssuesCommand := by
  unfold Obligations.CmdWriteIssuesCommand
  exact fun s rest hp =>
    ⟨fun v hq => step_write_idle hp hq (by decide) (by decide),
      fun hq => step_read_idle hp hq (by decide) (by decide)⟩

/-- Settles O14: a defined write of the words at 0x010, 0x014 and 0x018 while BUSY = 0. -/
theorem argRegistersStoreWrites : Obligations.ArgRegistersStoreWrites := by
  unfold Obligations.ArgRegistersStoreWrites
  exact fun s v rest hp =>
    ⟨fun hq => step_write_idle hp hq (by decide) (by decide),
      fun hq => step_write_idle hp hq (by decide) (by decide),
      fun hq => step_write_idle hp hq (by decide) (by decide)⟩

/-! ### The hardware reset -/

theorem State.reset_eq_hardReset : State.reset = State.reset.hardReset := rfl

theorem State.hardReset_statusWord (s : State) : s.hardReset.statusWord = 0 :=
  (by decide : State.reset.statusWord = 0)

theorem State.hardReset_bfInfoWord (s : State) : s.hardReset.bfInfoWord = 0 :=
  (by decide : State.reset.bfInfoWord = 0)

/-- R290: a step that takes a hardware reset, whether or not a command waits. -/
theorem step_hardReset {s : State} {rest : List HostOp} (hb : s.pending = none ∨ s.wait ≠ 0)
    (hq : s.hostQueue = .hardReset :: rest) : ∃ q : State, step s = .next q.hardReset := by
  cases hp : s.pending with
  | none => exact ⟨s.withQueue rest, by rw [step_idle hp, hostStep_cons hq]; rfl⟩
  | some w =>
    have hw : s.wait ≠ 0 := hb.resolve_left (by simp [hp])
    exact ⟨s.tick.withQueue rest, by rw [step_waiting hp hw, hostStep_cons (s := s.tick) hq]; rfl⟩

/-- Settles O56: both states are the hardware reset of a state, whose elements are R40's values by definition. -/
theorem hardwareResetValues : Obligations.HardwareResetValues := by
  unfold Obligations.HardwareResetValues
  intro s t ht
  obtain ⟨q, rfl⟩ : ∃ q : State, t = q.hardReset := by
    obtain rfl | ⟨hb, ⟨rest, hq⟩, hstep⟩ := ht
    · exact ⟨_, State.reset_eq_hardReset⟩
    · obtain ⟨q, hreset⟩ := step_hardReset hb hq
      exact ⟨q, Host.Outcome.next.inj (hstep.symm.trans hreset)⟩
  exact ⟨rfl, q.hardReset_statusWord, rfl, rfl, rfl, rfl, rfl, rfl, rfl, rfl, q.hardReset_bfInfoWord, rfl, rfl, rfl,
    rfl, rfl, rfl, rfl, rfl, rfl⟩

end Sys2Proof.Machine
end

section
/-! Proofs about the register window (20_memory.md R51 to R56): the accesses that are refused, what a read of each word
returns, the reserved words, and the words of the byte buffers.

The two buffers are neighbours in the window and in the byte storage, so `windowRead_buffer` and `windowWrite_buffer`
speak of both at once, by the word's offset in the window. -/

namespace Sys2Proof.Machine

/-! ### Accesses without a meaning -/

theorem checkedAccess_width {n : Nat} (hn : n ≠ 4) (a : Nat) (k : State) :
    checkedAccess a n k = .refused (.accessWidth n) :=
  if_pos hn

theorem checkedAccess_misaligned {a : Nat} (ha : a % 4 ≠ 0) (k : State) :
    checkedAccess a 4 k = .refused (.misalignedAccess a) := by
  simp [checkedAccess, ha]

theorem checkedAccess_outside {a : Nat} (ha : a % 4 = 0) (hb : 0x2000 ≤ a) (k : State) :
    checkedAccess a 4 k = .refused (.outsideWindow a) := by
  simp [checkedAccess, ha, Config.windowBytes, hb]

/-- A step that takes an event from outside, whether or not a command waits. -/
theorem step_event {s : State} {op : HostOp} {rest : List HostOp} (hb : s.pending = none ∨ s.wait ≠ 0)
    (hq : s.hostQueue = op :: rest) : step s = hostOp op rest s.ticked := by
  cases hp : s.pending with
  | none => rw [step_idle hp, hostStep_cons hq, State.ticked, if_pos hp]
  | some w =>
    have hne : s.pending ≠ none := by simp [hp]
    rw [step_waiting hp (hb.resolve_left hne), hostStep_cons (s := s.tick) hq, State.ticked, if_neg hne]

/-- R53: a step that takes a host access checks it first. -/
theorem step_access {s : State} {a n : Nat} {v : Word} {rest : List HostOp} (hb : s.pending = none ∨ s.wait ≠ 0)
    (hq : s.hostQueue = .read a n :: rest ∨ s.hostQueue = .write a n v :: rest) :
    ∃ k, step s = checkedAccess a n k := by
  obtain hq | hq := hq
  · exact ⟨_, step_event hb hq⟩
  · exact ⟨_, step_event hb hq⟩

/-- Settles O11: the three tests of an access, in their order. -/
theorem undefinedAccessesStop : Obligations.UndefinedAccessesStop := by
  unfold Obligations.UndefinedAccessesStop
  intro s a n v rest hb hq
  obtain ⟨k, hstep⟩ := step_access hb hq
  rw [hstep]
  refine ⟨fun hn => checkedAccess_width hn a k, ?_, ?_⟩
  · rintro rfl ha
    exact checkedAccess_misaligned ha k
  · rintro rfl ha hout
    exact checkedAccess_outside ha hout k

/-! ### Reserved words -/

/-- R51, R52: the offsets in none of the map's rows. -/
theorem windowWord_reserved {a : Nat} (ha : a % 4 = 0)
    (h : a = 0x00C ∨ a = 0x01C ∨ a = 0x02C ∨ 0x038 ≤ a ∧ a < 0x040 ∨ 0x058 ≤ a ∧ a < 0x200 ∨
      0x348 ≤ a ∧ a < 0x1000 ∨ 0x19C0 ≤ a) : windowWord a = .reserved := by
  unfold windowWord
  repeat rw [if_neg (by omega)]

theorem windowRead_cmd (s : State) : s.windowRead 0x008 = 0 := rfl

theorem windowRead_reserved {a : Nat} (h : windowWord a = .reserved) (s : State) : s.windowRead a = 0 := by
  simp [State.windowRead, h]

/-- Settles O13: the map has no word at a reserved offset, and a write to a word that is not writable is no write. -/
theorem reservedWordsReadZero : Obligations.ReservedWordsReadZero := by
  unfold Obligations.ReservedWordsReadZero
  intro s a v rest ha hb
  constructor
  · intro h hp hq
    have hzero : s.windowRead a = 0 := by
      obtain rfl | h := h
      · exact windowRead_cmd s
      · exact windowRead_reserved (windowWord_reserved ha h) s
    rw [step_read_idle hp hq ha hb, hzero]
    rfl
  · intro h hq
    constructor
    · intro hp
      rw [step_write_idle hp hq ha hb, windowWrite_readOnly ha h]
      rfl
    · exact fun w hp hw => step_write_busy hp hw hq ha hb

/-! ### The words of DBUF and EBUF -/

theorem Memory.readBytes_four (m : Memory) (a : Nat) :
    m.readBytes a 4 = [m.read a, m.read (a + 1), m.read (a + 2), m.read (a + 3)] := rfl

/-- R51: a byte of DBUF or EBUF has the same offset in the window and in the byte storage. -/
theorem windowRead_buffer {a : Nat} (h : 0x200 ≤ a) (h' : a < 0x348) (s : State) :
    s.windowRead a = le32 (s.mem.readBytes a 4) := by
  unfold State.windowRead
  by_cases hd : a < 0x300
  · rw [windowWord_dbuf h hd]
    simp only [State.dbuf, Config.dbufBase, Nat.add_sub_cancel' h]
  · have he : 0x300 ≤ a := Nat.le_of_not_lt hd
    rw [windowWord_ebuf he h']
    simp only [State.ebuf, Config.ebufBase, Nat.add_sub_cancel' he]

theorem windowWrite_buffer {a : Nat} (h : 0x200 ≤ a) (h' : a < 0x348) (s : State) (v : Word) :
    s.windowWrite a v = { s with mem := s.mem.writeBytes a (bytesLe32 v) } := by
  unfold State.windowWrite
  by_cases hd : a < 0x300
  · rw [windowWord_dbuf h hd]
    simp only [State.setDbuf, Config.dbufBase, Nat.add_sub_cancel' h]
  · have he : 0x300 ≤ a := Nat.le_of_not_lt hd
    rw [windowWord_ebuf he h']
    simp only [State.setEbuf, Config.ebufBase, Nat.add_sub_cancel' he]

/-- R17: the fields of four bytes' word are the bytes. -/
theorem le32_fields (a b c d : Byte) :
    (le32 [a, b, c, d]).extractLsb' 0 8 = a ∧ (le32 [a, b, c, d]).extractLsb' 8 8 = b ∧
      (le32 [a, b, c, d]).extractLsb' 16 8 = c ∧ (le32 [a, b, c, d]).extractLsb' 24 8 = d := by
  simpa [bytesLe32] using bytesLe32_le32 a b c d

/-- R17, R54: a stored word's bytes are its fields, the lowest offset first. -/
theorem Memory.read_writeBytes_bytesLe32 (m : Memory) (a : Nat) (v : Word) :
    (m.writeBytes a (bytesLe32 v)).read a = v.extractLsb' 0 8 ∧
      (m.writeBytes a (bytesLe32 v)).read (a + 1) = v.extractLsb' 8 8 ∧
      (m.writeBytes a (bytesLe32 v)).read (a + 2) = v.extractLsb' 16 8 ∧
      (m.writeBytes a (bytesLe32 v)).read (a + 3) = v.extractLsb' 24 8 := by
  have hread := m.readBytes_writeBytes a (bytesLe32 v)
  rw [bytesLe32_length, Memory.readBytes_four] at hread
  simpa [bytesLe32] using hread

/-- Settles O15: a word of either buffer is the four bytes at its offset, the bytes of a word are its fields. -/
theorem bufferWordsAreLittleEndian : Obligations.BufferWordsAreLittleEndian := by
  unfold Obligations.BufferWordsAreLittleEndian
  intro s base k v rest hp hk
  have ha : (base + 4 * k) % 4 = 0 := by omega
  have hlow : 0x200 ≤ base + 4 * k := by omega
  have hhigh : base + 4 * k < 0x348 := by omega
  generalize base + 4 * k = a at ha hlow hhigh ⊢
  have hb : a < 0x2000 := by omega
  constructor
  · intro hq
    refine ⟨le32 (s.mem.readBytes a 4), ?_, le32_fields _ _ _ _⟩
    rw [step_read_idle hp hq ha hb, windowRead_buffer hlow hhigh]
    rfl
  · intro hq
    obtain ⟨h0, h1, h2, h3⟩ := s.mem.read_writeBytes_bytesLe32 a v
    refine ⟨{ s with hostQueue := rest, mem := s.mem.writeBytes a (bytesLe32 v) }, ?_, rfl, h0, h1, h2, h3, ?_⟩
    · rw [step_write_idle hp hq ha hb, windowWrite_buffer hlow hhigh]
      rfl
    · exact fun x hx => Memory.read_writeBytes_outside _ _ _ hx

/-! ### Every word of the map -/

/-- R58: the word of MT_STATE[k]. -/
theorem windowRead_mtState (s : State) {k : Nat} (hk : k < 624) : s.windowRead (0x1000 + 4 * k) = s.mtState[k] := by
  have hindex : (0x1000 + 4 * k - 0x1000) / 4 = k := by omega
  unfold State.windowRead
  rw [windowWord_mtState (by omega) (by omega), hindex]
  simp [hk]

/-- Settles O12: the value recorded is the window's, which is a register's at its one offset. -/
theorem idleReadsReturnTheWord : Obligations.IdleReadsReturnTheWord := by
  unfold Obligations.IdleReadsReturnTheWord
  intro s a rest hp hq ha hb
  refine ⟨s.windowRead a, step_read_idle hp hq ha hb, ?_, ?_, ?_, ?_, ?_, ?_, ?_, ?_, ?_, ?_, ?_, ?_, ?_, ?_, ?_, ?_,
    fun hbuf => ?buffer, ?words⟩
  case buffer => rw [windowRead_buffer (by omega) (by omega), Memory.readBytes_four]
  case words =>
    rintro k hk rfl
    exact windowRead_mtState s hk
  all_goals
    rintro rfl
    rfl

end Sys2Proof.Machine
end

section
/-! Proofs about the command words (30_encoding.md R70 to R74, R79): the decoder and the encoder, the illegal words, and
the step that runs a latched word.

A command word is its OPC field with the RSV field above it, so a word with RSV = 0 is its OPC field widened
(`rsvField_eq_zero_iff`), and the opcode map is the inverse of `opcode` (`decodeOpcode_eq_some_iff`). -/

namespace Sys2Proof

/-! ### The opcode map -/

/-- R72: the map gives each command's opcode to that command and to no other. -/
theorem decodeOpcode_eq_some_iff {op : Nat} {i : Instr} : decodeOpcode op = some i ↔ op = (opcode i).toNat := by
  constructor
  · intro h
    unfold decodeOpcode at h
    split at h
    case h_22 => cases h
    all_goals
      obtain rfl := Option.some.inj h
      rfl
  · rintro rfl
    cases i <;> rfl

/-- R72, R73: the opcodes of no command are those of R73's ranges. -/
theorem decodeOpcode_eq_none_iff {op : Nat} (hop : op ≤ 0xFF) :
    decodeOpcode op = none ↔ opcodeUnassigned op = true := by
  unfold decodeOpcode
  split
  case h_22 =>
    simp only [opcodeUnassigned, Bool.or_eq_true, Bool.and_eq_true, decide_eq_true_eq, true_iff]
    simp only [imp_false] at *
    omega
  all_goals simp [opcodeUnassigned]

/-! ### Command words -/

/-- R70: a word with RSV = 0 is its OPC field, with zeros above. -/
theorem rsvField_eq_zero_iff (w : Word) : rsvField w = 0 ↔ w = (opcField w).setWidth 32 := by
  have hlt : w.toNat < 2 ^ 32 := w.isLt
  rw [← BitVec.toNat_inj, ← BitVec.toNat_inj]
  simp only [rsvField, opcField, BitVec.toNat_setWidth, BitVec.extractLsb'_toNat, Nat.shiftRight_eq_div_pow,
    BitVec.ofNat_eq_ofNat, BitVec.toNat_ofNat]
  omega

@[simp] theorem opcField_encodeWord (i : Instr) : opcField (encodeWord i) = opcode i := by
  cases i <;> rfl

/-- R70, R71, R73: a word is a command's when RSV is 0 and OPC is the command's opcode. -/
theorem decodeWord_eq_ok_iff {w : Word} {i : Instr} :
    decodeWord w = .ok i ↔ rsvField w = 0 ∧ decodeOpcode (opcField w).toNat = some i := by
  unfold decodeWord
  split
  next hrsv =>
    split
    next j hj => simp [hrsv, hj]
    next hnone => simp [hnone]
  next hrsv => exact iff_of_false (by simp) fun ⟨hzero, _⟩ => hrsv hzero

/-- R71, R73: a word is no command's when RSV is not 0 or OPC is in no row of the map. -/
theorem decodeWord_eq_error_iff {w : Word} :
    (∃ e, decodeWord w = .error e) ↔ rsvField w ≠ 0 ∨ decodeOpcode (opcField w).toNat = none := by
  unfold decodeWord
  split
  next hrsv =>
    split
    next j hj => simp [hrsv, hj]
    next hnone => simp [hnone]
  next hrsv => exact iff_of_true ⟨_, rfl⟩ (.inl hrsv)

/-- R70, R72: the only word of a command is its encoding. -/
theorem decodeWord_eq_ok_iff_eq_encodeWord {w : Word} {i : Instr} : decodeWord w = .ok i ↔ w = encodeWord i := by
  rw [decodeWord_eq_ok_iff, decodeOpcode_eq_some_iff, BitVec.toNat_inj, rsvField_eq_zero_iff]
  constructor
  · rintro ⟨hw, hopc⟩
    rw [hw, hopc]
    rfl
  · rintro rfl
    rw [opcField_encodeWord]
    exact ⟨rfl, rfl⟩

/-- R71, R73: the illegal words by their two fields. -/
theorem decodeWord_eq_error_iff_fields {w : Word} :
    (∃ e, decodeWord w = .error e) ↔ rsvField w ≠ 0 ∨ opcodeUnassigned (opcField w).toNat = true := by
  rw [decodeWord_eq_error_iff, decodeOpcode_eq_none_iff (Nat.le_of_lt_succ (opcField w).isLt)]

/-! ### Byte strings -/

theorem decode_cons {b0 b1 b2 b3 : Byte} {bytes rest : List Byte} {i : Instr} :
    decode (b0 :: b1 :: b2 :: b3 :: bytes) = .ok (i, rest) ↔
      decodeWord (Machine.le32 [b0, b1, b2, b3]) = .ok i ∧ bytes = rest := by
  simp only [decode]
  cases decodeWord (Machine.le32 [b0, b1, b2, b3]) <;> simp

/-- R79: what is decoded is one command word's 4 bytes and whatever follows them. -/
theorem decode_eq_ok_iff {bytes rest : List Byte} {i : Instr} :
    decode bytes = .ok (i, rest) ↔ bytes = encode i ++ rest := by
  constructor
  · intro h
    match bytes with
    | b0 :: b1 :: b2 :: b3 :: tail =>
      obtain ⟨hword, rfl⟩ := decode_cons.1 h
      have hbytes : [b0, b1, b2, b3] = encode i := by
        rw [encode, ← decodeWord_eq_ok_iff_eq_encodeWord.1 hword, Machine.bytesLe32_le32]
      rw [← hbytes]
      rfl
    | [] | [_] | [_, _] | [_, _, _] => cases h
  · rintro rfl
    refine decode_cons.2 ⟨?_, rfl⟩
    exact decodeWord_eq_ok_iff_eq_encodeWord.2 (Machine.le32_bytesLe32 (encodeWord i))

/-- Settles O1: on words by `decodeWord_eq_ok_iff_eq_encodeWord`, on byte strings by `decode_eq_ok_iff`. -/
theorem decodeAndEncodeAgree : Obligations.DecodeAndEncodeAgree := by
  unfold Obligations.DecodeAndEncodeAgree
  exact ⟨fun _ _ => decode_eq_ok_iff.2 rfl, fun _ _ => decodeWord_eq_ok_iff_eq_encodeWord,
    fun _ _ _ => decode_eq_ok_iff⟩

/-! ### Words of the opcode table -/

/-- R72: the table's word of a command decodes to it. -/
theorem decodeTableWord_encodeWord (i : Instr) : decodeTableWord 32 (encodeWord i).toNat = some i := by
  have hdecode : decode (Machine.bytesLe32 (encodeWord i)) = .ok (i, []) :=
    decode_eq_ok_iff.2 (List.append_nil _).symm
  rw [decodeTableWord, Nat.mod_eq_of_lt (encodeWord i).isLt, BitVec.ofNat_toNat, BitVec.setWidth_eq, hdecode]

/-- Settles O3: nine words are their commands' encodings; the other two are evaluated. -/
theorem tableWordsDecode : Obligations.TableWordsDecode := by
  unfold Obligations.TableWordsDecode
  exact ⟨decodeTableWord_encodeWord .nop, decodeTableWord_encodeWord .mtNext, decodeTableWord_encodeWord .mtFirst,
    decodeTableWord_encodeWord .bfKey, decodeTableWord_encodeWord .bfDec, decodeTableWord_encodeWord .seedDerive,
    decodeTableWord_encodeWord .substKey, decodeTableWord_encodeWord .arcEntry, decodeTableWord_encodeWord .coreReset,
    by decide, by decide⟩

end Sys2Proof

namespace Sys2Proof.Machine

/-! ### The step that runs the latched word -/

/-- R74: a pending word whose latency is over is what the step runs. -/
theorem step_latched {s : State} {w : Word} (hp : s.pending = some w) (hw : s.wait = 0) : step s = runPending w s := by
  simp [step, hp, hw]

theorem runPending_ok {w : Word} {i : Instr} (h : decodeWord w = .ok i) (s : State) : runPending w s = exec i s := by
  simp [runPending, h]

theorem runPending_error {w : Word} (h : ∃ e, decodeWord w = .error e) (s : State) :
    runPending w s = completeIllegal w s := by
  obtain ⟨e, he⟩ := h
  simp [runPending, he]

theorem step_command {s : State} {w : Word} {i : Instr} (hp : s.pending = some w) (hw : s.wait = 0)
    (hi : decodeWord w = .ok i) : step s = exec i s := by
  rw [step_latched hp hw, runPending_ok hi]

/-- Settles O4: the latched word runs, and 4 bytes decode as their word does. -/
theorem stepRunsLatchedCommand : Obligations.StepRunsLatchedCommand := by
  unfold Obligations.StepRunsLatchedCommand
  refine ⟨fun s w i => step_command, fun s b0 b1 b2 b3 i hdecode hp hw => ?_⟩
  obtain ⟨hi, -⟩ := decode_cons.1 hdecode
  exact step_command hp hw hi

/-- Settles O2: the illegal words by their fields, and the completion of one. -/
theorem illegalWordsOnlyReport : Obligations.IllegalWordsOnlyReport := by
  unfold Obligations.IllegalWordsOnlyReport
  refine ⟨fun w => decodeWord_eq_error_iff_fields, fun s w hp hw hillegal => ?_⟩
  have herror : ∃ e, decodeWord w = .error e := decodeWord_eq_error_iff_fields.2 hillegal
  rw [step_latched hp hw, runPending_error herror]
  rfl

/-! ### A poll -/

/-- Settles O10: a poll is an event like any other, which looks at BUSY. -/
theorem pollWaitsForCompletion : Obligations.PollWaitsForCompletion := by
  unfold Obligations.PollWaitsForCompletion
  intro s rest hq
  constructor
  · intro hp
    rw [step_idle hp, hostStep_cons hq, hostOp, State.busy_eq_false hp]
    rfl
  · intro w hp hw
    rw [step_waiting hp hw, hostStep_cons (s := s.tick) hq, hostOp, State.busy_tick, State.busy_eq_true hp,
      if_pos rfl, ← hq]
    rfl

end Sys2Proof.Machine
end

section
/-! Proofs about the completion of a command (30_encoding.md R74, R75, R77, 60_exceptions.md R262): every command
completes, and which result registers it has written then. -/

namespace Sys2Proof.Machine

/-! ### Every command completes -/

/-- R74: the outcome is the completion of command `i`, with some error code, in some state its meaning has reached. -/
def Completes (i : Instr) (o : Host.Outcome State Fault Refusal) : Prop :=
  ∃ q e, o = .next (State.complete q (opcode i) e)

theorem completes_succeed (i : Instr) (q : State) : Completes i (succeed i q) := ⟨q, .ok, rfl⟩

theorem completes_raise (i : Instr) (e : ErrCode) (q : State) : Completes i (raise i e q) := ⟨q, e, rfl⟩

theorem completes_archiveError (i : Instr) (e : ErrCode) (q : State) : Completes i (archiveError i e q) :=
  completes_raise i e _

theorem Completes.ite {i : Instr} {c : Prop} [Decidable c] {x y : Host.Outcome State Fault Refusal}
    (hx : Completes i x) (hy : Completes i y) : Completes i (if c then x else y) := by
  split
  · exact hx
  · exact hy

/-- A meaning that first checks for an error. -/
theorem Completes.check {i : Instr} {c : Prop} [Decidable c] {e : ErrCode} {q : State}
    {o : Host.Outcome State Fault Refusal} (h : Completes i o) : Completes i (if c then raise i e q else o) :=
  .ite (completes_raise i e q) h

/-- R74, R262: the meaning of every command ends in its completion. -/
theorem exec_completes (i : Instr) (s : State) : Completes i (exec i s) := by
  cases i
  case bfKey => exact .check (.check (completes_succeed _ _))
  case bfEncb => exact .check (completes_succeed _ _)
  case bfDecb => exact .check (completes_succeed _ _)
  case bfEnc => exact .check (.check (completes_succeed _ _))
  case bfDec => exact .check (.check (completes_succeed _ _))
  case seedDerive =>
    simp only [exec, execSeedDerive]
    split
    · exact completes_raise _ _ _
    · exact .check (completes_succeed _ _)
  case subst => exact .check (.check (completes_succeed _ _))
  case arcTocSet => exact .check (completes_succeed _ _)
  case arcTocClr => exact .check (completes_succeed _ _)
  case arcHeader =>
    exact .check (.ite (completes_archiveError _ _ _) (.ite (completes_archiveError _ _ _) (completes_succeed _ _)))
  case arcEntry =>
    exact .check (.check (.ite (completes_archiveError _ _ _) (.ite (completes_succeed _ _)
      (.ite (.ite (completes_archiveError _ _ _) (completes_succeed _ _)) (completes_succeed _ _)))))
  all_goals exact completes_succeed _ _

/-- Settles O5: what a completion writes, by `exec_completes`. -/
theorem everyCommandCompletes : Obligations.EveryCommandCompletes := by
  unfold Obligations.EveryCommandCompletes
  intro i s
  obtain ⟨q, e, h⟩ := exec_completes i s
  exact ⟨q.complete (opcode i) e, h, rfl, rfl, rfl⟩

/-! ### The result registers -/

/-- R75: from `s` to `t`, command `i` has left every result register that it is not listed for. -/
structure KeepsResults (i : Instr) (s t : State) : Prop where
  res0 : i ∉ [.mtNext, .mtTemper, .mtUntemper, .mtFirst, .bfEncb, .bfDecb, .seedDerive, .subst, .substKey, .arcEntry,
    .coreReset] → t.res0 = s.res0
  res1 : i ∉ [.bfEncb, .bfDecb, .arcEntry, .coreReset] → t.res1 = s.res1
  res2 : i ∉ [.arcEntry, .coreReset] → t.res2 = s.res2

/-- R75: what each command writes when it succeeds. -/
theorem keepsResults_successEffect (i : Instr) (s : State) : KeepsResults i s (successEffect i s) := by
  cases i
  case mtNext =>
    have ready : s.readyForNext.res1 = s.res1 ∧ s.readyForNext.res2 = s.res2 := by
      unfold State.readyForNext
      split <;> exact ⟨rfl, rfl⟩
    obtain ⟨hres1, hres2⟩ := ready
    exact ⟨by simp, fun _ => hres1, fun _ => hres2⟩
  case bfEnc =>
    rw [successEffect, State.mapBlocks_frame]
    exact ⟨fun _ => rfl, fun _ => rfl, fun _ => rfl⟩
  case bfDec =>
    rw [successEffect, State.mapBlocks_frame]
    exact ⟨fun _ => rfl, fun _ => rfl, fun _ => rfl⟩
  case seedDerive =>
    simp only [successEffect]
    split <;> constructor <;> simp
  all_goals constructor <;> simp [successEffect]

/-- R77: a command has written no result register, or it has ended with no error and written only its own. -/
theorem exec_results {i : Instr} {s t : State} (h : exec i s = .next t) :
    (t.res0 = s.res0 ∧ t.res1 = s.res1 ∧ t.res2 = s.res2) ∨ (t.err = .ok ∧ KeepsResults i s t) := by
  obtain ⟨e, -, rfl⟩ | ⟨-, e, -, rfl⟩ | ⟨-, -, e, -, rfl⟩ | rfl := exec_cases h
  · exact .inl ⟨rfl, rfl, rfl⟩
  · exact .inl ⟨rfl, rfl, rfl⟩
  · exact .inl ⟨rfl, rfl, rfl⟩
  · obtain ⟨hres0, hres1, hres2⟩ := keepsResults_successEffect i s
    exact .inr ⟨rfl, hres0, hres1, hres2⟩

/-- R75: whatever its end, a command leaves every result register that it is not listed for. -/
theorem exec_keepsResults {i : Instr} {s t : State} (h : exec i s = .next t) : KeepsResults i s t := by
  obtain ⟨hres0, hres1, hres2⟩ | ⟨-, hkeeps⟩ := exec_results h
  · exact ⟨fun _ => hres0, fun _ => hres1, fun _ => hres2⟩
  · exact hkeeps

/-- Settles O19: the first clause by `exec_results`, the others by `exec_keepsResults` read backwards. -/
theorem resultRegistersOnlyOnSuccess : Obligations.ResultRegistersOnlyOnSuccess := by
  unfold Obligations.ResultRegistersOnlyOnSuccess
  intro i s t h
  have k := exec_keepsResults h
  refine ⟨fun herr => ?_, fun hne => ?_, fun hne => ?_, fun hne => ?_⟩
  · exact (exec_results h).resolve_right fun ⟨hok, _⟩ => herr hok
  · simpa using by_contra fun hi => hne (k.res0 hi)
  · simpa using by_contra fun hi => hne (k.res1 hi)
  · simpa using by_contra fun hi => hne (k.res2 hi)

end Sys2Proof.Machine
end

section
/-! Proofs about the tempering functions (40_prng.md R103, R104, R107).

A tempering step xors a word with a shifted and masked copy of itself, so it is `I + N` over the field of two elements,
and taking it twice gives `I + N^2`: a step whose shift is twice as long. Doubled often enough, the shift leaves the
word, and the step has become the identity. -/

namespace Sys2Proof.Machine

/-- The xor of a word with its left shift by `n` under the mask `m`. -/
def leftStep (n : Nat) (m y : Word) : Word := y ^^^ ((y <<< n) &&& m)

/-- The xor of a word with its right shift by `n`. -/
def rightStep (n : Nat) (y : Word) : Word := y ^^^ (y >>> n)

theorem temperShift7_eq_leftStep : temperShift7 = leftStep 7 Config.mtTemperB := rfl

theorem temperShift15_eq_leftStep : temperShift15 = leftStep 15 Config.mtTemperC := rfl

theorem temperShift11_eq_rightStep : temperShift11 = rightStep 11 := rfl

theorem temperShift18_eq_rightStep : temperShift18 = rightStep 18 := rfl

theorem leftStep_of_le {n : Nat} (h : 32 ≤ n) (m y : Word) : leftStep n m y = y := by
  simp [leftStep, BitVec.shiftLeft_eq_zero h]

@[simp] theorem leftStep_zero_mask (n : Nat) (y : Word) : leftStep n 0 y = y := by simp [leftStep]

theorem rightStep_of_le {n : Nat} (h : 32 ≤ n) (y : Word) : rightStep n y = y := by
  simp [rightStep, BitVec.ushiftRight_eq_zero h]

/-- Masking with `m` keeps xors. -/
theorem xor_and_mask (a b m : Word) : (a ^^^ b) &&& m = (a &&& m) ^^^ (b &&& m) := by
  ext k hk
  simp [Bool.and_xor_distrib_right]

/-- `(I + N)^2 = I + N^2`, applied to `y`, where `ny` is `N y` and `nny` is `N (N y)`. -/
theorem xor_xor_middle (y ny nny : Word) : (y ^^^ ny) ^^^ (ny ^^^ nny) = y ^^^ nny := by
  rw [BitVec.xor_assoc, ← BitVec.xor_assoc ny, BitVec.xor_self, BitVec.zero_xor]

/-- R107: two left steps are one of twice the shift, under the bits that both masks keep. -/
theorem leftStep_leftStep (n : Nat) (m y : Word) :
    leftStep n m (leftStep n m y) = leftStep (n + n) ((m <<< n) &&& m) y := by
  simp only [leftStep]
  rw [BitVec.shiftLeft_xor_distrib, xor_and_mask, xor_xor_middle, BitVec.shiftLeft_and_distrib, BitVec.and_assoc,
    BitVec.shiftLeft_add]

/-- R107: two right steps are one of twice the shift. -/
theorem rightStep_rightStep (n : Nat) (y : Word) : rightStep n (rightStep n y) = rightStep (n + n) y := by
  simp only [rightStep]
  rw [BitVec.ushiftRight_xor_distrib, xor_xor_middle, BitVec.shiftRight_add]

/-! ### The inverse of each step -/

theorem temperShift18_temperShift18 (y : Word) : temperShift18 (temperShift18 y) = y := by
  rw [temperShift18_eq_rightStep, rightStep_rightStep, rightStep_of_le (by decide)]

/-- No bit of the mask is left when it meets itself shifted by 15. -/
theorem temperShift15_temperShift15 (y : Word) : temperShift15 (temperShift15 y) = y := by
  have hmask : (Config.mtTemperC <<< 15) &&& Config.mtTemperC = 0 := by decide
  rw [temperShift15_eq_leftStep, leftStep_leftStep, hmask, leftStep_zero_mask]

theorem temperShift7_eight_times (y : Word) : Nat.repeat temperShift7 8 y = y := by
  simp only [Nat.repeat, temperShift7_eq_leftStep, leftStep_leftStep]
  exact leftStep_of_le (by decide) _ _

theorem temperShift11_four_times (y : Word) : Nat.repeat temperShift11 4 y = y := by
  simp only [Nat.repeat, temperShift11_eq_rightStep, rightStep_rightStep]
  exact rightStep_of_le (by decide) _

/-- Settles O29: in either order each step meets its inverse, from the middle of the composition outwards. -/
theorem untemperInvertsTemper : Obligations.UntemperInvertsTemper := by
  unfold Obligations.UntemperInvertsTemper
  intro y
  constructor
  · calc untemper (temper y)
        = Nat.repeat temperShift11 3 (Nat.repeat temperShift7 8 (temperShift11 y)) := by
          rw [untemper, temper, temperShift18_temperShift18, temperShift15_temperShift15]
          rfl
      _ = Nat.repeat temperShift11 4 y := by
          rw [temperShift7_eight_times]
          rfl
      _ = y := temperShift11_four_times y
  · calc temper (untemper y)
        = temperShift18 (temperShift15 (temperShift7 (Nat.repeat temperShift11 4
            (Nat.repeat temperShift7 7 (temperShift15 (temperShift18 y)))))) := rfl
      _ = temperShift18 (temperShift15 (Nat.repeat temperShift7 8 (temperShift15 (temperShift18 y)))) := by
          rw [temperShift11_four_times]
          rfl
      _ = y := by
          rw [temperShift7_eight_times, temperShift15_temperShift15, temperShift18_temperShift18]

end Sys2Proof.Machine
end

section
/-! Proofs about the words of the generator (40_prng.md R101, R102): the seeded words, and the twist in place.

The pass after `n` words has left the words from `n` on as they were, and the words before `n` as they will be at the
end, so each new word is the recurrence's on a mixture of old and new words. -/

namespace Sys2Proof.Machine

/-! ### The seeded words -/

@[simp] theorem getElem_seedWords (seed : Word) {i : Nat} (h : i < 624) : (seedWords seed)[i] = seedWord seed i := by
  unfold seedWords
  rw [Vector.getElem_mk, List.getElem_toArray, List.getElem_map, List.getElem_range]

/-- Settles O24: the sequence is the model's own, and `seedWord` packs it. -/
theorem seedWordsFollowTheSequence : Obligations.SeedWordsFollowTheSequence := by
  unfold Obligations.SeedWordsFollowTheSequence
  exact fun seed => ⟨lcgSeq seed, rfl, fun _ => rfl, fun _ h => getElem_seedWords seed h⟩

/-! ### The twist in place -/

/-- R102: the words after the passes of the loop for the indices below `n`. -/
def twistedBelow (mt : Vector Word 624) (n : Nat) (hn : n ≤ 624) : Vector Word 624 :=
  n.fold (fun kk h => twistStep kk (by omega)) mt

section
variable (mt : Vector Word 624)

theorem twistWords_eq_twistedBelow : twistWords mt = twistedBelow mt 624 (Nat.le_refl 624) := by
  unfold twistWords twistedBelow
  rfl

theorem twistedBelow_zero : twistedBelow mt 0 (Nat.zero_le 624) = mt := rfl

theorem twistedBelow_succ {n : Nat} (hn : n < 624) :
    twistedBelow mt (n + 1) hn = twistStep n hn (twistedBelow mt n (by omega)) := by
  rw [twistedBelow, Nat.fold_succ]
  rfl

theorem getElem_twistStep_of_ne {kk j : Nat} (hkk : kk < 624) (hj : j < 624) (hne : kk ≠ j) :
    (twistStep kk hkk mt)[j] = mt[j] := by
  rw [twistStep, Vector.getElem_set_ne _ _ hne]

/-- The words from `n` on are still the old ones. -/
theorem getElem_twistedBelow_of_le {n j : Nat} (hn : n ≤ 624) (hj : j < 624) (hle : n ≤ j) :
    (twistedBelow mt n hn)[j] = mt[j] := by
  induction n with
  | zero => rw [twistedBelow_zero]
  | succ n ih =>
    rw [twistedBelow_succ mt hn, getElem_twistStep_of_ne _ _ _ (by omega)]
    exact ih (by omega) (by omega)

/-- A word once recomputed is not changed by the later passes. -/
theorem getElem_twistedBelow_of_lt {m n j : Nat} (hm : m ≤ 624) (hjn : j < n) (hnm : n ≤ m) :
    (twistedBelow mt m hm)[j] = (twistedBelow mt n (by omega))[j] := by
  induction m, hnm using Nat.le_induction with
  | base => rfl
  | succ m hnm ih =>
    rw [twistedBelow_succ mt hm, getElem_twistStep_of_ne _ _ _ (by omega)]
    exact ih (by omega)

/-- The words before `n` are already the new ones. -/
theorem getElem_twistedBelow_eq_twistWords {n j : Nat} (hn : n ≤ 624) (hj : j < n) :
    (twistedBelow mt n hn)[j] = (twistWords mt)[j] := by
  rw [twistWords_eq_twistedBelow, ← getElem_twistedBelow_of_lt mt (Nat.le_refl 624) hj hn]

/-- R102: the new word `kk` is what the pass for `kk` stores there. -/
theorem getElem_twistWords {kk : Nat} (h : kk < 624) :
    (twistWords mt)[kk] = twistWord mt[kk]
      ((twistedBelow mt kk (by omega))[(kk + 1) % 624]'(Nat.mod_lt _ (by decide)))
      ((twistedBelow mt kk (by omega))[(kk + 397) % 624]'(Nat.mod_lt _ (by decide))) := by
  rw [← getElem_twistedBelow_eq_twistWords mt (Nat.succ_le_of_lt h) (Nat.lt_succ_self kk), twistedBelow_succ mt h,
    twistStep, Vector.getElem_set_self, getElem_twistedBelow_of_le mt _ h (Nat.le_refl kk)]

/-- R102: only word 623 has a successor that is already recomputed, word 0. -/
theorem getElem_twistedBelow_successor {kk : Nat} (h : kk < 624) :
    (twistedBelow mt kk (by omega))[(kk + 1) % 624]'(Nat.mod_lt _ (by decide)) =
      if h' : kk + 1 < 624 then mt[kk + 1] else (twistWords mt)[0] := by
  split
  next h' =>
    simp only [Nat.mod_eq_of_lt h']
    exact getElem_twistedBelow_of_le mt _ h' (Nat.le_succ kk)
  next h' =>
    obtain rfl : kk = 623 := by omega
    exact getElem_twistedBelow_eq_twistWords mt _ (by decide)

/-- R102: the word 397 ahead is already recomputed from index 227 on. -/
theorem getElem_twistedBelow_ahead {kk : Nat} (h : kk < 624) :
    (twistedBelow mt kk (by omega))[(kk + 397) % 624]'(Nat.mod_lt _ (by decide)) =
      if h' : kk < 227 then mt[kk + 397] else (twistWords mt)[kk - 227]'(by omega) := by
  split
  next h' =>
    simp only [Nat.mod_eq_of_lt (show kk + 397 < 624 by omega)]
    exact getElem_twistedBelow_of_le mt _ _ (Nat.le_add_right kk 397)
  next h' =>
    have hwrap : (kk + 397) % 624 = kk - 227 := by omega
    simp only [hwrap]
    exact getElem_twistedBelow_eq_twistWords mt _ (by omega)

/-- R105: the new word 0 reads the old words 0, 1 and 397 only. -/
theorem getElem_twistWords_zero : (twistWords mt)[0] = twistWord mt[0] mt[1] mt[397] :=
  getElem_twistWords mt (by decide)

end

/-- Settles O25: the stored word, with its two neighbours read from the old or the new words. -/
theorem twistRecurrence : Obligations.TwistRecurrence := by
  unfold Obligations.TwistRecurrence
  intro mt kk h
  rw [getElem_twistWords mt h, getElem_twistedBelow_successor mt h, getElem_twistedBelow_ahead mt h]
  rfl

end Sys2Proof.Machine
end

section
/-! Proofs about the commands of the PRNG Engine (40_prng.md R106, R108 to R113), and that MT_FIRST, SUBST_KEY and
ARC_ENTRY leave the generator alone (R113, R196, 70_reset_and_hazards.md R298). -/

namespace Sys2Proof.Machine

/-! ### The generator's state changes -/

theorem State.twisted_of_unseeded {s : State} (h : s.mtCursor = 625) :
    s.twisted = { s with mtState := twistWords (seedWords 4357), mtCursor := 0 } := by
  rw [State.twisted, if_pos h]
  rfl

theorem State.twisted_of_seeded {s : State} (h : s.mtCursor ≠ 625) :
    s.twisted = { s with mtState := twistWords s.mtState, mtCursor := 0 } := by
  rw [State.twisted, if_neg h]

theorem State.readyForNext_of_lt {s : State} (h : s.mtCursor.val < 624) : s.readyForNext = s :=
  if_neg (by omega)

theorem State.readyForNext_of_le {s : State} (h : 624 ≤ s.mtCursor.val) : s.readyForNext = s.twisted :=
  if_pos h

theorem State.cursorWordAt_of_lt {s : State} (h : s.mtCursor.val < 624) :
    s.cursorWordAt = s.mtState[s.mtCursor.val] := by
  rw [State.cursorWordAt, Vector.getElem?_eq_getElem h, Option.getD_some]

/-! ### Results -/

/-- Settles O26, by the two cases of the cursor. -/
theorem mtSeedAndTwistResults : Obligations.MtSeedAndTwistResults := by
  unfold Obligations.MtSeedAndTwistResults
  refine ⟨rfl, rfl, fun s => ⟨rfl, fun h => ?_, fun h => ?_⟩⟩
  · rw [exec, execMtTwist, State.twisted_of_unseeded h]
    rfl
  · rw [exec, execMtTwist, State.twisted_of_seeded h]
    rfl

/-- R110: MT_NEXT after a twist returns the new word 0. -/
theorem exec_mtNext_of_le {s : State} (h : 624 ≤ s.mtCursor.val) :
    exec .mtNext s = succeed .mtNext { s.twisted with mtCursor := 1, res0 := temper s.twisted.mtState[0] } := by
  have hword : s.twisted.cursorWordAt = s.twisted.mtState[0] := State.cursorWordAt_of_lt (by decide : 0 < 624)
  rw [exec, execMtNext, State.readyForNext_of_le h, hword]
  rfl

/-- Settles O27, by the three cases of the cursor. -/
theorem mtNextResult : Obligations.MtNextResult := by
  unfold Obligations.MtNextResult
  refine ⟨rfl, fun s => ⟨fun h => ?_, fun h => ?_, fun h => ?_⟩⟩
  · refine ⟨_, rfl, ?_, ?_⟩
    · have hlt : s.mtCursor.val + 1 < 626 := by omega
      simp [State.complete, State.readyForNext_of_lt h, Nat.mod_eq_of_lt hlt]
    · rw [State.readyForNext_of_lt h, State.cursorWordAt_of_lt h]
      rfl
  · have hseeded : s.mtCursor ≠ 625 := fun h625 => by simp [h625] at h
    rw [exec_mtNext_of_le (by omega), State.twisted_of_seeded hseeded]
    rfl
  · have hunseeded : s.mtCursor = 625 := Fin.ext h
    rw [exec_mtNext_of_le (by omega), State.twisted_of_unseeded hunseeded]
    rfl

/-- Settles O28: the three meanings as they stand. -/
theorem temperUntemperFirstResults : Obligations.TemperUntemperFirstResults := by
  unfold Obligations.TemperUntemperFirstResults
  exact ⟨rfl, rfl, rfl, fun s => ⟨rfl, rfl, rfl⟩⟩

/-! ### The shortcut -/

/-- R106: the first new word of a seeded generator needs three seeded words only. -/
theorem firstOutput_eq_temper_twistWords (seed : Word) :
    firstOutput seed = temper (twistWords (seedWords seed))[0] := by
  rw [getElem_twistWords_zero, getElem_seedWords, getElem_seedWords, getElem_seedWords, firstOutput]

/-- Settles O30: MT_SEED leaves the cursor 624, at which MT_NEXT twists and reads word 0. -/
theorem firstOutputAgreesWithGenerator : Obligations.FirstOutputAgreesWithGenerator := by
  unfold Obligations.FirstOutputAgreesWithGenerator
  refine ⟨firstOutput_eq_temper_twistWords, fun s a b c hfirst hseed hnext => ?_⟩
  obtain rfl := (succeed_eq_next ..).1 hfirst
  obtain rfl := (succeed_eq_next ..).1 hseed
  rw [exec_mtNext_of_le (Nat.le_refl 624)] at hnext
  obtain rfl := (succeed_eq_next ..).1 hnext
  exact firstOutput_eq_temper_twistWords s.arg0

/-! ### Commands that leave the generator alone -/

/-- The state with another generator. -/
def State.withGenerator (s : State) (mt : Vector Word 624) (c : Fin 626) : State :=
  { s with mtState := mt, mtCursor := c }

/-- Where `o` has a next state, `o'` has the same with the generator `mt`, `c` in place. -/
def CarriesGenerator (mt : Vector Word 624) (c : Fin 626) (o o' : Host.Outcome State Fault Refusal) : Prop :=
  ∀ t, o = .next t → o' = .next (t.withGenerator mt c)

section
variable {mt : Vector Word 624} {c : Fin 626}

theorem carriesGenerator_raise (i : Instr) (e : ErrCode) (q : State) :
    CarriesGenerator mt c (raise i e q) (raise i e (q.withGenerator mt c)) := by
  intro t h
  obtain rfl := (raise_eq_next ..).1 h
  rfl

theorem carriesGenerator_succeed (i : Instr) (q : State) :
    CarriesGenerator mt c (succeed i q) (succeed i (q.withGenerator mt c)) :=
  carriesGenerator_raise i .ok q

theorem carriesGenerator_archiveError (i : Instr) (e : ErrCode) (q : State) :
    CarriesGenerator mt c (archiveError i e q) (archiveError i e (q.withGenerator mt c)) :=
  carriesGenerator_raise i e (q.archiveFatal e)

/-- A branch on what no generator decides. -/
theorem CarriesGenerator.ite {p : Prop} [Decidable p] {x y x' y' : Host.Outcome State Fault Refusal}
    (hx : CarriesGenerator mt c x x') (hy : CarriesGenerator mt c y y') :
    CarriesGenerator mt c (if p then x else y) (if p then x' else y') := by
  split
  · exact hx
  · exact hy

/-- R298: every check of ARC_ENTRY and every state it ends in is the same for every generator. -/
theorem carriesGenerator_arcEntry (s : State) :
    CarriesGenerator mt c (exec .arcEntry s) (exec .arcEntry (s.withGenerator mt c)) :=
  .ite (carriesGenerator_raise _ _ _) (.ite (carriesGenerator_raise _ _ _) (.ite (carriesGenerator_archiveError _ _ _)
    (.ite (carriesGenerator_succeed _ s.keyEntry.advanceEntry) (.ite
      (.ite (carriesGenerator_archiveError _ _ _) (carriesGenerator_succeed _ s.decryptRecord.emitRow.advanceEntry))
      (carriesGenerator_succeed _ s.emitRow.advanceEntry)))))

end

/-- Settles O31, by the command. -/
theorem generatorIsNotTouched : Obligations.GeneratorIsNotTouched := by
  unfold Obligations.GeneratorIsNotTouched
  rintro i s t mt c (rfl | rfl | rfl) h
  · exact carriesGenerator_succeed .mtFirst { s with res0 := firstOutput s.arg0 } t h
  · exact carriesGenerator_succeed .substKey { s with res0 := (perEntryKey s.arg0 s.arg1).setWidth 32 } t h
  · exact carriesGenerator_arcEntry s t h

end Sys2Proof.Machine
end

section
/-! Proofs about the block cipher (41_block_cipher.md R132 to R136): decryption is encryption under the subkeys in the
other order, and either undoes the other, on halves and on 8-byte blocks. -/

namespace Sys2Proof.Machine

/-! ### Encryption round by round -/

/-- R132: the halves after rounds 0 to n - 1 of an encryption. -/
def encryptRounds (k : Schedule) (n : Nat) (hn : n ≤ 16) (lr : Word × Word) : Word × Word :=
  Nat.fold n (fun i h x => feistelRound k.s (k.p[i]'(by omega)) x) lr

/-- R132: the end of an encryption: the halves change places and take subkeys `a` and `b`. -/
def whiten (a b : Word) (lr : Word × Word) : Word × Word := (lr.2 ^^^ b, lr.1 ^^^ a)

theorem encryptHalves_eq_whiten (k : Schedule) (lr : Word × Word) :
    encryptHalves k lr = whiten k.p[16] k.p[17] (encryptRounds k 16 (Nat.le_refl 16) lr) := rfl

@[simp] theorem encryptRounds_zero (k : Schedule) (lr : Word × Word) :
    encryptRounds k 0 (Nat.zero_le 16) lr = lr := rfl

theorem encryptRounds_succ (k : Schedule) {n : Nat} (hn : n < 16) (lr : Word × Word) :
    encryptRounds k (n + 1) hn lr = feistelRound k.s k.p[n] (encryptRounds k n (Nat.le_of_lt hn) lr) := by
  simp [encryptRounds, Nat.fold]

@[simp] theorem whiten_whiten (a b : Word) (lr : Word × Word) : whiten b a (whiten a b lr) = lr := by
  simp [whiten]

/-- R133: a round of decryption undoes a round of encryption, between one whitening and the next. -/
theorem feistelRound_whiten_feistelRound (s : Vector (Vector Word 256) 4) (a b c : Word) (lr : Word × Word) :
    feistelRound s c (whiten b c (feistelRound s a lr)) = whiten a b lr := by
  simp [feistelRound, whiten, BitVec.xor_assoc]

/-! ### Decryption is encryption with the subkeys reversed -/

/-- R133: the schedule whose encryption is the decryption: its subkeys from the last to the first. -/
def Schedule.reversed (k : Schedule) : Schedule := { k with p := k.p.reverse }

@[simp] theorem Schedule.reversed_reversed (k : Schedule) : k.reversed.reversed = k := by
  simp [Schedule.reversed]

theorem decryptHalves_eq_encryptHalves_reversed (k : Schedule) (lr : Word × Word) :
    decryptHalves k lr = encryptHalves k.reversed lr := by
  simp [decryptHalves, encryptHalves, Schedule.reversed]

/-- R136: after n rounds of decryption, the first 16 - n rounds of encryption are left to undo. -/
theorem encryptRounds_reversed_encryptHalves (k : Schedule) (lr : Word × Word) {m n : Nat} (h : m + n = 16) :
    encryptRounds k.reversed n (by omega) (encryptHalves k lr) =
      whiten k.p[m] k.p[m + 1] (encryptRounds k m (by omega) lr) := by
  induction n generalizing m with
  | zero =>
    obtain rfl : m = 16 := h
    rfl
  | succ n ih =>
    have hkey : k.reversed.p[n] = k.p[m + 2] := by
      simp [Schedule.reversed, show 17 - n = m + 2 by omega]
    rw [encryptRounds_succ _ (by omega), ih (m := m + 1) (by omega), encryptRounds_succ _ (by omega), hkey]
    exact feistelRound_whiten_feistelRound k.s k.p[m] k.p[m + 1] k.p[m + 2] _

theorem encryptHalves_reversed_encryptHalves (k : Schedule) (lr : Word × Word) :
    encryptHalves k.reversed (encryptHalves k lr) = lr := by
  have hrounds := encryptRounds_reversed_encryptHalves k lr (Nat.zero_add 16)
  have hp16 : k.reversed.p[16] = k.p[1] := by simp [Schedule.reversed]
  have hp17 : k.reversed.p[17] = k.p[0] := by simp [Schedule.reversed]
  rw [encryptHalves_eq_whiten k.reversed, hrounds, hp16, hp17, encryptRounds_zero]
  exact whiten_whiten _ _ lr

@[simp] theorem decryptHalves_encryptHalves (k : Schedule) (lr : Word × Word) :
    decryptHalves k (encryptHalves k lr) = lr := by
  rw [decryptHalves_eq_encryptHalves_reversed, encryptHalves_reversed_encryptHalves]

@[simp] theorem encryptHalves_decryptHalves (k : Schedule) (lr : Word × Word) :
    encryptHalves k (decryptHalves k lr) = lr := by
  rw [decryptHalves_eq_encryptHalves_reversed]
  simpa using encryptHalves_reversed_encryptHalves k.reversed lr

/-! ### Blocks -/

@[simp] theorem halvesOf_bytesOfHalves (lr : Word × Word) : halvesOf (bytesOfHalves lr) = lr := by
  simp [halvesOf, bytesOfHalves]

theorem bytesOfHalves_halvesOf {b : List Byte} (h : b.length = 8) : bytesOfHalves (halvesOf b) = b := by
  rw [bytesOfHalves, halvesOf, bytesLe32_le32_of_length (by simp [h]), bytesLe32_le32_of_length (by simp [h]),
    List.take_append_drop]

theorem decryptBlock_encryptBlock (k : Schedule) {b : List Byte} (h : b.length = 8) :
    decryptBlock k (encryptBlock k b) = b := by
  simp [decryptBlock, encryptBlock, bytesOfHalves_halvesOf h]

theorem encryptBlock_decryptBlock (k : Schedule) {b : List Byte} (h : b.length = 8) :
    encryptBlock k (decryptBlock k b) = b := by
  simp [decryptBlock, encryptBlock, bytesOfHalves_halvesOf h]

/-- Settles O32, round by round from the last to the first. -/
theorem cipherRoundTrip : Obligations.CipherRoundTrip := by
  unfold Obligations.CipherRoundTrip
  exact fun k => ⟨fun lr => ⟨decryptHalves_encryptHalves k lr, encryptHalves_decryptHalves k lr⟩,
    fun b h => ⟨decryptBlock_encryptBlock k h, encryptBlock_decryptBlock k h⟩⟩

end Sys2Proof.Machine
end

section
/-! Proofs about the key schedule (41_block_cipher.md R130, R142): it forgets nothing of the key stream, because each
encryption that fills BF_P can be undone from what it filled. -/

namespace Sys2Proof.Machine

/-! ### Two schedules with one encryption in common -/

theorem feistelRound_injective (s : Vector (Vector Word 256) 4) (a : Word) : Function.Injective (feistelRound s a) := by
  intro x y h
  have hwhite : whiten a 0 x = whiten a 0 y := by
    rw [← feistelRound_whiten_feistelRound s a 0 0, h, feistelRound_whiten_feistelRound]
  exact Function.LeftInverse.injective (whiten_whiten a 0) hwhite

/-- R132: the outcome of two rounds determines their two subkeys. -/
theorem feistelRound_two_subkeys {s : Vector (Vector Word 256) 4} {a b a' b' : Word} {lr : Word × Word}
    (h : feistelRound s b (feistelRound s a lr) = feistelRound s b' (feistelRound s a' lr)) : a = a' ∧ b = b' := by
  obtain ⟨hleft, hright⟩ := Prod.ext_iff.1 h
  simp only [feistelRound] at hleft hright
  -- The right half is what F is taken of in the second round, so F cancels in the left half.
  rw [hright] at hleft
  have ha : a = a' := by simpa using hleft
  subst ha
  exact ⟨rfl, by simpa using hright⟩

theorem whiten_subkeys {a b a' b' : Word} {lr : Word × Word} (h : whiten a b lr = whiten a' b' lr) :
    a = a' ∧ b = b' := by
  simpa [whiten, and_comm] using h

theorem Schedule.eq_of_p_of_s {k k' : Schedule} (hp : k.p = k'.p) (hs : k.s = k'.s) : k = k' :=
  (Schedule.mk.injEq ..).mpr ⟨hp, hs⟩

section
variable {k k' : Schedule} (hs : k.s = k'.s)
include hs

theorem encryptRounds_congr {n : Nat} (hn : n ≤ 16) (hp : ∀ i (_ : i < n), k.p[i] = k'.p[i]) (lr : Word × Word) :
    encryptRounds k n hn lr = encryptRounds k' n hn lr := by
  induction n with
  | zero => rfl
  | succ n ih =>
    rw [encryptRounds_succ k hn, encryptRounds_succ k' hn, hs, hp n (by omega),
      ih (by omega) fun i hi => hp i (by omega)]

/-- Equal subkeys can be taken off the end of equal runs of rounds. -/
theorem encryptRounds_cancel {m n : Nat} (hmn : m ≤ n) (hn : n ≤ 16)
    (hp : ∀ i (_ : i < n), m ≤ i → k.p[i] = k'.p[i]) {lr : Word × Word}
    (h : encryptRounds k n hn lr = encryptRounds k' n hn lr) :
    encryptRounds k m (by omega) lr = encryptRounds k' m (by omega) lr := by
  induction n, hmn using Nat.le_induction with
  | base => exact h
  | succ n hmn ih =>
    rw [encryptRounds_succ k hn, encryptRounds_succ k' hn, hs, hp n (by omega) hmn] at h
    exact ih (by omega) (fun i hi => hp i (by omega)) (feistelRound_injective _ _ h)

/-- R130: an encryption determines the two subkeys of a pair when the others and the tables are known. -/
theorem schedule_eq_of_encryptHalves_eq {j : Nat} (hj : j < 9)
    (hp : ∀ i (_ : i < 18), i ≠ 2 * j → i ≠ 2 * j + 1 → k.p[i] = k'.p[i]) {lr : Word × Word}
    (h : encryptHalves k lr = encryptHalves k' lr) : k = k' := by
  have hpair : k.p[2 * j] = k'.p[2 * j] ∧ k.p[2 * j + 1] = k'.p[2 * j + 1] := by
    rw [encryptHalves_eq_whiten, encryptHalves_eq_whiten] at h
    obtain rfl | hlt : j = 8 ∨ j < 8 := by omega
    · rw [encryptRounds_congr hs _ fun i hi => hp i (by omega) (by omega) (by omega)] at h
      exact whiten_subkeys h
    · rw [hp 16 (by omega) (by omega) (by omega), hp 17 (by omega) (by omega) (by omega)] at h
      have hrounds := encryptRounds_cancel hs (m := 2 * j + 2) (by omega) (Nat.le_refl 16)
        (fun i hi hle => hp i (by omega) (by omega) (by omega))
        (Function.LeftInverse.injective (whiten_whiten _ _) h)
      rw [encryptRounds_succ k (by omega), encryptRounds_succ k (by omega), encryptRounds_succ k' (by omega),
        encryptRounds_succ k' (by omega), hs,
        encryptRounds_congr hs _ fun i hi => hp i (by omega) (by omega) (by omega)] at hrounds
      exact feistelRound_two_subkeys hrounds
  have hall : k.p = k'.p := by
    apply Vector.ext
    intro i hi
    by_cases h0 : i = 2 * j
    · subst h0
      exact hpair.1
    · by_cases h1 : i = 2 * j + 1
      · subst h1
        exact hpair.2
      · exact hp i hi h0 h1
  exact Schedule.eq_of_p_of_s hall hs

end

/-! ### Filling BF_P -/

/-- R130: the schedule and the running block after the first n encryptions. -/
def filledP (key : List Byte) (n : Nat) (hn : n ≤ 9) : Schedule × (Word × Word) :=
  Nat.fold n (fun j h x => fillP j (by omega) x) (keyedSchedule key, (0, 0))

theorem filledP_succ (key : List Byte) {n : Nat} (hn : n < 9) :
    filledP key (n + 1) hn = fillP n hn (filledP key n (Nat.le_of_lt hn)) := by
  simp [filledP, Nat.fold]

theorem filledP_s (key : List Byte) {n : Nat} (hn : n ≤ 9) : (filledP key n hn).1.s = sInit := by
  induction n with
  | zero => rfl
  | succ n ih =>
    rw [filledP_succ]
    exact ih (by omega)

/-- R130: the running block before encryption n is the pair of subkeys last filled, at first the zero block. -/
def runningBlock (p : Vector Word 18) (n : Nat) (hn : n ≤ 9) : Word × Word :=
  match n with
  | 0 => (0, 0)
  | m + 1 => (p[2 * m], p[2 * m + 1])

theorem runningBlock_congr {p q : Vector Word 18} {n : Nat} (hn : n ≤ 9)
    (h : ∀ i (_ : i < 2 * n), p[i] = q[i]) : runningBlock p n hn = runningBlock q n hn := by
  cases n with
  | zero => rfl
  | succ m => exact Prod.ext (h (2 * m) (by omega)) (h (2 * m + 1) (by omega))

theorem filledP_snd (key : List Byte) {n : Nat} (hn : n ≤ 9) :
    (filledP key n hn).2 = runningBlock (filledP key n hn).1.p n hn := by
  cases n with
  | zero => rfl
  | succ m =>
    rw [filledP_succ]
    simp [fillP, runningBlock]

theorem fillP_p_other {j i : Nat} (hj : j < 9) (x : Schedule × (Word × Word)) (hi : i < 18) (h0 : i ≠ 2 * j)
    (h1 : i ≠ 2 * j + 1) : (fillP j hj x).1.p[i] = x.1.p[i] := by
  simp [fillP, h0.symm, h1.symm]

theorem fillP_p_pair {j : Nat} (hj : j < 9) (x : Schedule × (Word × Word)) :
    ((fillP j hj x).1.p[2 * j], (fillP j hj x).1.p[2 * j + 1]) = encryptHalves x.1 x.2 := by
  simp [fillP]

/-- R130: what an encryption has filled determines the schedule before it. -/
theorem filledP_cancel {a b : List Byte} {n : Nat} (hn : n < 9)
    (h : (filledP a (n + 1) hn).1 = (filledP b (n + 1) hn).1) :
    (filledP a n (Nat.le_of_lt hn)).1 = (filledP b n (Nat.le_of_lt hn)).1 := by
  rw [filledP_succ, filledP_succ] at h
  have hother : ∀ i (_ : i < 18), i ≠ 2 * n → i ≠ 2 * n + 1 →
      (filledP a n (Nat.le_of_lt hn)).1.p[i] = (filledP b n (Nat.le_of_lt hn)).1.p[i] := by
    intro i hi h0 h1
    rw [← fillP_p_other hn _ hi h0 h1, h, fillP_p_other hn _ hi h0 h1]
  have hblock : (filledP a n (Nat.le_of_lt hn)).2 = (filledP b n (Nat.le_of_lt hn)).2 := by
    rw [filledP_snd, filledP_snd]
    exact runningBlock_congr _ fun i hi => hother i (by omega) (by omega) (by omega)
  have henc := fillP_p_pair hn (filledP a n (Nat.le_of_lt hn))
  rw [h, fillP_p_pair, hblock] at henc
  exact schedule_eq_of_encryptHalves_eq (by rw [filledP_s, filledP_s]) hn hother henc.symm

theorem keyedSchedule_eq_of_filledP_eq {a b : List Byte} {n : Nat} (hn : n ≤ 9)
    (h : (filledP a n hn).1 = (filledP b n hn).1) : keyedSchedule a = keyedSchedule b := by
  induction n with
  | zero => exact h
  | succ n ih => exact ih (by omega) (filledP_cancel hn h)

/-! ### Filling BF_S -/

/-- What every step of a fold keeps, the fold keeps. -/
theorem fold_keeps {α β : Type} (g : α → β) {n : Nat} (f : (i : Nat) → i < n → α → α)
    (h : ∀ i hi x, g (f i hi x) = g x) (x : α) : g (Nat.fold n f x) = g x := by
  induction n with
  | zero => rfl
  | succ n ih =>
    rw [Nat.fold_succ, h]
    exact ih (fun i hi => f i (by omega)) fun i hi => h i (by omega)

/-- R130: the 128 encryptions that fill table t. -/
def fillTable (t : Nat) (ht : t < 4) (x : Schedule × (Word × Word)) : Schedule × (Word × Word) :=
  Nat.fold 128 (fillS t ht) x

theorem fillTable_p (t : Nat) (ht : t < 4) (x : Schedule × (Word × Word)) : (fillTable t ht x).1.p = x.1.p := by
  unfold fillTable
  exact fold_keeps (fun y : Schedule × (Word × Word) => y.1.p) (fillS t ht) (fun _ _ _ => rfl) x

/-- R130: the 4 times 128 encryptions that fill the tables. -/
def fillTables (x : Schedule × (Word × Word)) : Schedule × (Word × Word) := Nat.fold 4 fillTable x

theorem fillTables_p (x : Schedule × (Word × Word)) : (fillTables x).1.p = x.1.p := by
  unfold fillTables
  exact fold_keeps (fun y : Schedule × (Word × Word) => y.1.p) fillTable fillTable_p x

theorem keySchedule_eq_fillTables (key : List Byte) :
    keySchedule key = (fillTables (filledP key 9 (Nat.le_refl 9))).1 := by
  unfold keySchedule
  rfl

theorem keyedSchedule_eq_of_keySchedule_eq {a b : List Byte} (h : keySchedule a = keySchedule b) :
    keyedSchedule a = keyedSchedule b := by
  apply keyedSchedule_eq_of_filledP_eq (Nat.le_refl 9)
  rw [keySchedule_eq_fillTables, keySchedule_eq_fillTables] at h
  have hp := congrArg Schedule.p h
  rw [fillTables_p, fillTables_p] at hp
  exact Schedule.eq_of_p_of_s hp (by rw [filledP_s, filledP_s])

/-- R130: the schedule determines the keyed subkeys, and they determine it. -/
theorem keySchedule_eq_iff {a b : List Byte} : keySchedule a = keySchedule b ↔ keyedSchedule a = keyedSchedule b := by
  refine ⟨keyedSchedule_eq_of_keySchedule_eq, fun h => ?_⟩
  have hfilled : filledP a 9 (Nat.le_refl 9) = filledP b 9 (Nat.le_refl 9) := by
    unfold filledP
    rw [h]
  rw [keySchedule_eq_fillTables, keySchedule_eq_fillTables, hfilled]

/-! ### The key stream -/

/-- R130: the word's four bytes, the first one most significant. -/
theorem keyStreamWord_byte (key : List Byte) (i : Nat) {t : Nat} (ht : t < 4) :
    (keyStreamWord key i).extractLsb' (24 - 8 * t) 8 = keyStreamByte key (4 * i + t) := by
  apply BitVec.eq_of_getLsbD_eq
  intro r hr
  interval_cases t <;> interval_cases r <;> simp [keyStreamWord, Nat.fold]

theorem keyStreamWord_congr {a b : List Byte} {i : Nat}
    (h : ∀ t, t < 4 → keyStreamByte a (4 * i + t) = keyStreamByte b (4 * i + t)) :
    keyStreamWord a i = keyStreamWord b i := by
  unfold keyStreamWord
  congr
  funext t ht d
  rw [h t ht]

/-- R130: the keyed subkeys are the key stream's 72 bytes. -/
theorem keyedSchedule_eq_iff {a b : List Byte} :
    keyedSchedule a = keyedSchedule b ↔ ∀ m, m < 72 → keyStreamByte a m = keyStreamByte b m := by
  constructor
  · intro h m hm
    have hword : keyStreamWord a (m / 4) = keyStreamWord b (m / 4) := by
      have hp := congrArg (fun k : Schedule => k.p[m / 4]) h
      simpa [keyedSchedule] using hp
    rw [← Nat.div_add_mod m 4, ← keyStreamWord_byte a _ (Nat.mod_lt m (by decide)), hword, keyStreamWord_byte]
    exact Nat.mod_lt m (by decide)
  · intro h
    have hword (i : Fin 18) : keyStreamWord a i = keyStreamWord b i :=
      keyStreamWord_congr fun t ht => h _ (by omega)
    simp [keyedSchedule, hword]

/-- Settles O33: the schedule determines the keyed subkeys and is determined by them. -/
theorem sameScheduleIffSameKeyStream : Obligations.SameScheduleIffSameKeyStream := by
  unfold Obligations.SameScheduleIffSameKeyStream
  intro a b _ _ _ _
  exact keySchedule_eq_iff.trans keyedSchedule_eq_iff

end Sys2Proof.Machine
end

section
/-! Proofs about the commands of the block cipher (41_block_cipher.md R137 to R141). -/

namespace Sys2Proof.Machine

/-! ### BF_KEY, BF_ENCB and BF_DECB -/

/-- R30, R137: a key length fits the field BF_KEYLEN. -/
theorem toNat_setWidth_six_of_le {w : Word} (h : w.toNat ≤ 56) : (w.setWidth 6).toNat = w.toNat := by
  rw [BitVec.toNat_setWidth, Nat.mod_eq_of_lt (Nat.lt_of_le_of_lt h (by decide))]

theorem exec_bfKey_of_badLength {s : State} (h : s.arg1.toNat < 1 ∨ 56 < s.arg1.toNat) :
    exec .bfKey s = raise .bfKey .invalidArgument s :=
  if_pos ((keyLengthOk_eq_false _).2 h)

/-- R137: the length is checked first; then the archive decides. -/
theorem exec_bfKey_of_goodLength {s : State} (h1 : 1 ≤ s.arg1.toNat) (h56 : s.arg1.toNat ≤ 56) :
    exec .bfKey s =
      if s.arcState = .entries ∧ s.arcEnc = true then raise .bfKey .stateError s
      else succeed .bfKey (s.withSchedule (s.dbuf 0 s.arg1.toNat) false (s.arg1.setWidth 6)) := by
  apply if_neg
  rw [keyLengthOk_eq_false]
  omega

/-- Settles O34, by the checks of BF_KEY in their order. -/
theorem bfKeyResult : Obligations.BfKeyResult := by
  unfold Obligations.BfKeyResult
  refine ⟨rfl, fun s => ⟨fun h1 h56 harc => ?_, fun hlen => ?_, fun h1 h56 hst henc => ?_⟩⟩
  · rw [exec_bfKey_of_goodLength h1 h56, if_neg harc]
    exact ⟨_, rfl, toNat_setWidth_six_of_le h56, rfl⟩
  · rw [exec_bfKey_of_badLength hlen]
    rfl
  · rw [exec_bfKey_of_goodLength h1 h56, if_pos ⟨hst, henc⟩]
    rfl

/-- Settles O35, by BF_VALID. -/
theorem bfHalvesResults : Obligations.BfHalvesResults := by
  unfold Obligations.BfHalvesResults
  refine ⟨rfl, rfl, fun s => ⟨fun hvalid => ?_, fun hvalid => ?_⟩⟩
  · have hvalid : ¬ s.bfValid = false := by simp [hvalid]
    rw [exec, execBfEncb, if_neg hvalid, exec, execBfDecb, if_neg hvalid]
    exact ⟨rfl, rfl⟩
  · rw [exec, execBfEncb, if_pos hvalid, exec, execBfDecb, if_pos hvalid]
    exact ⟨rfl, rfl⟩

/-! ### BF_ENC and BF_DEC -/

/-- R140, R141: the checks of a command on data blocks, and what it does when they pass. -/
def dataCommand (i : Instr) (f : List Byte → List Byte) (s : State) : Host.Outcome State Fault Refusal :=
  if dataLengthOk s.arg1.toNat = false then raise i .invalidArgument s
  else if s.bfValid = false then raise i .stateError s
  else succeed i (s.mapBlocks f (s.arg1.toNat / 8))

theorem exec_bfEnc (s : State) : exec .bfEnc s = dataCommand .bfEnc (encryptBlock s.bf) s := rfl

theorem exec_bfDec (s : State) : exec .bfDec s = dataCommand .bfDec (decryptBlock s.bf) s := rfl

section
variable {i : Instr} {f : List Byte → List Byte} {s : State}

theorem dataCommand_of_badLength (h : 256 < s.arg1.toNat ∨ s.arg1.toNat % 8 ≠ 0) :
    dataCommand i f s = raise i .invalidArgument s :=
  if_pos ((dataLengthOk_eq_false _).2 h)

theorem dataCommand_of_goodLength (hle : s.arg1.toNat ≤ 256) (hmod : s.arg1.toNat % 8 = 0) :
    dataCommand i f s =
      if s.bfValid = false then raise i .stateError s else succeed i (s.mapBlocks f (s.arg1.toNat / 8)) := by
  apply if_neg
  rw [dataLengthOk_eq_false]
  omega

theorem dataCommand_of_noSchedule (hle : s.arg1.toNat ≤ 256) (hmod : s.arg1.toNat % 8 = 0) (h : s.bfValid = false) :
    dataCommand i f s = raise i .stateError s := by
  rw [dataCommand_of_goodLength hle hmod, if_pos h]

theorem dataCommand_of_schedule (hle : s.arg1.toNat ≤ 256) (hmod : s.arg1.toNat % 8 = 0) (h : s.bfValid = true) :
    dataCommand i f s = succeed i (s.mapBlocks f (s.arg1.toNat / 8)) := by
  rw [dataCommand_of_goodLength hle hmod, if_neg (by simp [h])]

/-- R140, R141: each block by itself, and every other byte and every other element as it was. -/
theorem dataCommand_result (hf : ∀ b, (f b).length = 8) (hle : s.arg1.toNat ≤ 256) (hmod : s.arg1.toNat % 8 = 0)
    (h : s.bfValid = true) :
    ∃ t, dataCommand i f s = .next t ∧
      t = { s with mem := t.mem, err := .ok, lastop := opcode i, pending := none } ∧
      (∀ k, 8 * k < s.arg1.toNat → t.dbuf (8 * k) 8 = f (s.dbuf (8 * k) 8)) ∧
      unchangedOutside s.mem t.mem 0x200 s.arg1.toNat := by
  refine ⟨_, dataCommand_of_schedule hle hmod h, ?_, fun k hk => ?_, fun x hx => ?_⟩
  · rw [State.complete_mem]
    exact congrArg (·.complete (opcode i) .ok) (State.mapBlocks_frame s f _)
  · exact State.mapBlocks_block s f hf _ k (by omega)
  · apply State.mapBlocks_read_outside s f hf
    rw [Nat.mul_div_cancel' (Nat.dvd_of_mod_eq_zero hmod)]
    exact hx

/-- A command on data blocks that ends with no error has passed its checks. -/
theorem dataCommand_ok {t : State} (h : dataCommand i f s = .next t) (hok : t.err = .ok) :
    s.arg1.toNat ≤ 256 ∧ s.arg1.toNat % 8 = 0 ∧ s.bfValid = true ∧
      t = (s.mapBlocks f (s.arg1.toNat / 8)).complete (opcode i) .ok := by
  obtain ⟨hlen, h⟩ := of_check_raise h hok (by decide)
  obtain ⟨hvalid, h⟩ := of_check_raise h hok (by decide)
  rw [dataLengthOk_eq_false, not_or, not_lt, not_not] at hlen
  exact ⟨hlen.1, hlen.2, Bool.of_not_eq_false hvalid, (succeed_eq_next ..).1 h⟩

end

/-- Settles O36: both commands are the shared one, with their own transformation of a block. -/
theorem bfDataResults : Obligations.BfDataResults := by
  unfold Obligations.BfDataResults
  simp only [exec_bfEnc, exec_bfDec]
  refine ⟨rfl, rfl, fun s => ⟨fun hle hmod hvalid => ⟨?_, ?_⟩, fun hlen => ?_, fun hle hmod hvalid => ?_⟩⟩
  · exact dataCommand_result (encryptBlock_length s.bf) hle hmod hvalid
  · exact dataCommand_result (decryptBlock_length s.bf) hle hmod hvalid
  · exact ⟨dataCommand_of_badLength hlen, dataCommand_of_badLength hlen⟩
  · exact ⟨dataCommand_of_noSchedule hle hmod hvalid, dataCommand_of_noSchedule hle hmod hvalid⟩

/-! ### BF_DEC after BF_ENC -/

theorem State.read_eq_of_dbuf_eq {s t : State} {a n j : Nat} (h : s.dbuf a n = t.dbuf a n) (hj : j < n) :
    s.mem.read (Config.dbufBase + a + j) = t.mem.read (Config.dbufBase + a + j) := by
  have hbyte := congrArg (fun b : List Byte => b.getD j 0) h
  simpa [State.dbuf, List.getD_eq_getElem?_getD, hj] using hbyte

/-- R140, R141: transforming the blocks back, in a state with the bytes of the first transformation, gives the whole
byte storage back. -/
theorem State.mapBlocks_inverse_mem {s t : State} {f g : List Byte → List Byte} (hf : ∀ b, (f b).length = 8)
    (hg : ∀ b, (g b).length = 8) (hgf : ∀ b, b.length = 8 → g (f b) = b) {n : Nat} (hwf : s.mem.wf = true)
    (ht : t.mem = (s.mapBlocks f n).mem) : (t.mapBlocks g n).mem = s.mem := by
  have htwf : t.mem.wf = true := ht ▸ State.mapBlocks_wf s f n hwf
  apply Memory.ext_of_wf (State.mapBlocks_wf t g n htwf) hwf
  intro x
  by_cases hx : x < Config.dbufBase ∨ Config.dbufBase + 8 * n ≤ x
  · rw [State.mapBlocks_read_outside t g hg n hx, ht, State.mapBlocks_read_outside s f hf n hx]
  · obtain ⟨k, j, hk, hj, rfl⟩ : ∃ k j, k < n ∧ j < 8 ∧ x = Config.dbufBase + 8 * k + j :=
      ⟨(x - Config.dbufBase) / 8, (x - Config.dbufBase) % 8, by omega, by omega, by omega⟩
    have htblock : t.dbuf (8 * k) 8 = f (s.dbuf (8 * k) 8) := by
      rw [State.dbuf, ht]
      exact State.mapBlocks_block s f hf n k hk
    apply State.read_eq_of_dbuf_eq _ hj
    rw [State.mapBlocks_block t g hg n k hk, htblock, hgf _ (State.dbuf_length ..)]

/-- Settles O37: BF_ENC keeps the operands and the schedule, so BF_DEC passes its checks and undoes each block. -/
theorem decAfterEncRestoresMemory : Obligations.DecAfterEncRestoresMemory := by
  unfold Obligations.DecAfterEncRestoresMemory
  intro s t u hwf henc hok hdec
  obtain ⟨hle, hmod, hvalid, ht⟩ := dataCommand_ok henc hok
  have hframe := State.mapBlocks_frame s (encryptBlock s.bf) (s.arg1.toNat / 8)
  have harg1 : t.arg1 = s.arg1 := by rw [ht, hframe]; rfl
  have htvalid : t.bfValid = s.bfValid := by rw [ht, hframe]; rfl
  have hbf : t.bf = s.bf := by rw [ht, hframe]; rfl
  rw [exec_bfDec, dataCommand_of_schedule (by rwa [harg1]) (by rwa [harg1]) (by rwa [htvalid]), succeed_eq_next, hbf,
    harg1] at hdec
  subst hdec
  refine ⟨rfl, ?_⟩
  exact State.mapBlocks_inverse_mem (encryptBlock_length s.bf) (decryptBlock_length s.bf)
    (fun b hb => decryptBlock_encryptBlock s.bf hb) hwf (by rw [ht]; rfl)

end Sys2Proof.Machine
end

section
/-! Proofs about Seed Derivation (42_seed_derivation.md R171 to R175).

The checksum sees only the logical content of a code, which two facts about `logical` fix: a zero byte ends it, and bytes
that are no zero byte are kept whole. SEED_DERIVE is its two checks in their order and then one seed function. -/

namespace Sys2Proof.Machine

/-! ### The logical content of a code and its checksum -/

/-- R171: the first zero byte ends the logical content, whatever follows it. -/
theorem logical_append_zero (code rest : List Byte) : logical (code ++ 0 :: rest) = logical code := by
  unfold logical
  induction code with
  | nil => rfl
  | cons b bs ih =>
    rw [List.cons_append, List.takeWhile_cons, List.takeWhile_cons, ih]

theorem logical_eq_self {code : List Byte} (h : ∀ b ∈ code, b ≠ 0) : logical code = code :=
  List.takeWhile_eq_self_iff.2 fun b hb => bne_iff_ne.2 (h b hb)

theorem ne_zero_of_mem_logical {code : List Byte} : ∀ b ∈ logical code, b ≠ 0 :=
  fun _ hb => bne_iff_ne.1 (List.mem_takeWhile_imp (p := (· != 0)) hb)

theorem versionCodeToSeed_append_zero (code rest : List Byte) :
    versionCodeToSeed (code ++ 0 :: rest) = versionCodeToSeed code := by
  rw [versionCodeToSeed, logical_append_zero, versionCodeToSeed]

/-- R173: the accumulator after the code continues through every byte of the salt. -/
theorem versionCodeToSeed_logical_append {salt : List Byte} (hsalt : ∀ b ∈ salt, b ≠ 0) (code : List Byte) :
    versionCodeToSeed (logical code ++ salt) = salt.foldl crcStep (versionCodeToSeed code) := by
  have hall : ∀ b ∈ logical code ++ salt, b ≠ 0 := List.forall_mem_append.2 ⟨ne_zero_of_mem_logical, hsalt⟩
  rw [versionCodeToSeed, logical_eq_self hall, List.foldl_append, versionCodeToSeed]

/-- Settles O39, by what `logical` drops and what it keeps. -/
theorem saltContinuesTheChecksum : Obligations.SaltContinuesTheChecksum := by
  unfold Obligations.SaltContinuesTheChecksum
  exact ⟨versionCodeToSeed_append_zero, fun code _ hsalt => versionCodeToSeed_logical_append hsalt code⟩

/-! ### SEED_DERIVE -/

section
variable {s : State}

/-- R174: the tag is checked first. -/
theorem exec_seedDerive_of_unsupported (htag : 3 < s.arg0.toNat) :
    exec .seedDerive s = raise .seedDerive .unsupportedKeyType s := by
  rw [exec, execSeedDerive, (keyType_unsupported s.arg0).2 htag]

/-- R174: with a supported tag, the length decides. -/
theorem exec_seedDerive_of_supported {seed : Params → List Byte → Word → Word}
    (hseed : (keyTypeOf s.arg0).bind seedOfKeyType = some seed) :
    exec .seedDerive s =
      if bufferLengthOk s.arg1.toNat = false then raise .seedDerive .invalidArgument s
      else succeed .seedDerive { s with res0 := seed s.params (s.dbuf 0 s.arg1.toNat) s.arg2 } := by
  rw [exec, execSeedDerive, hseed]

theorem exec_seedDerive_of_badLength (htag : s.arg0.toNat ≤ 3) (hlen : 256 < s.arg1.toNat) :
    exec .seedDerive s = raise .seedDerive .invalidArgument s := by
  have hsupported : (keyTypeOf s.arg0).bind seedOfKeyType ≠ none := by
    rw [ne_eq, keyType_unsupported, not_lt]
    exact htag
  obtain ⟨seed, hseed⟩ := Option.ne_none_iff_exists'.1 hsupported
  rw [exec_seedDerive_of_supported hseed, if_pos ((bufferLengthOk_eq_false _).2 hlen)]

theorem exec_seedDerive_of_goodLength {tag : Word} {seed : Params → List Byte → Word → Word} (htag : s.arg0 = tag)
    (hseed : (keyTypeOf tag).bind seedOfKeyType = some seed) (hlen : s.arg1.toNat ≤ 256) :
    exec .seedDerive s =
      succeed .seedDerive { s with res0 := seed s.params (s.dbuf 0 s.arg1.toNat) s.arg2 } := by
  have hok : ¬ bufferLengthOk s.arg1.toNat = false := by
    rw [bufferLengthOk_eq_false, not_lt]
    exact hlen
  rw [exec_seedDerive_of_supported (htag ▸ hseed), if_neg hok]

end

/-- Settles O38, by the two checks in their order and the seed function of each of the four supported tags. -/
theorem seedDeriveResult : Obligations.SeedDeriveResult := by
  unfold Obligations.SeedDeriveResult
  refine ⟨rfl, fun s => ⟨fun hlen => ⟨?direct, ?volumeBound, ?common, ?debug⟩, ?unsupported, ?badLength⟩⟩
  case direct => exact fun htag => exec_seedDerive_of_goodLength htag rfl hlen
  case volumeBound => exact fun htag => exec_seedDerive_of_goodLength htag rfl hlen
  case common => exact fun htag => exec_seedDerive_of_goodLength htag rfl hlen
  case debug => exact fun htag => exec_seedDerive_of_goodLength htag rfl hlen
  case unsupported => exact exec_seedDerive_of_unsupported
  case badLength => exact exec_seedDerive_of_badLength

/-! ### The corner values -/

/-- Settles O40: the bytes after the zero byte of "wind" `00` "mill" do not count, and the other values are computed. -/
theorem checksumCornerValues : Obligations.ChecksumCornerValues := by
  unfold Obligations.ChecksumCornerValues
  refine ⟨?empty, ?letterA, ?allOnes, ?windZeroMill, ?windmill⟩
  case empty => rfl
  case letterA => decide
  case allOnes => decide
  case windZeroMill => exact versionCodeToSeed_append_zero [0x77, 0x69, 0x6E, 0x64] [0x6D, 0x69, 0x6C, 0x6C]
  case windmill => decide +kernel

end Sys2Proof.Machine
end

section
/-! Proofs about the Rotating Substitution Cipher (43_substitution.md R190 to R196).

One byte under one running key is its own inverse and keeps letters letters, which the index of the result shows. The
transform applies it position by position before the first zero byte and moves nothing else, so every fact about the
transform is the fact about one byte. -/

namespace Sys2Proof.Machine

/-! ### Letters -/

/-- R190: a byte with an index is the letter of that index. -/
theorem letterAt_of_letterIndex {c : Byte} {i : Nat} (h : letterIndex c = some i) : i < 52 ∧ letterAt i = c := by
  unfold letterIndex at h
  split_ifs at h with hupper hlower
  · obtain rfl : c.toNat - 0x41 = i := Option.some.inj h
    refine ⟨by omega, ?_⟩
    rw [letterAt, if_pos (by omega), Nat.add_sub_cancel' hupper.1, BitVec.ofNat_toNat, BitVec.setWidth_eq]
  · obtain rfl : c.toNat - 0x61 + 26 = i := Option.some.inj h
    refine ⟨by omega, ?_⟩
    rw [letterAt, if_neg (by omega), Nat.add_sub_cancel, Nat.add_sub_cancel' hlower.1, BitVec.ofNat_toNat,
      BitVec.setWidth_eq]

/-- R190: the letter of each of the 52 indices has that index. -/
theorem letterIndex_letterAt : ∀ {j : Nat}, j < 52 → letterIndex (letterAt j) = some j := by
  decide

/-! ### One byte under one running key -/

section
variable {c : Byte} {i : Nat} (k : Nat)

theorem substByte_of_letter (h : letterIndex c = some i) : substByte k c = mirror ((i + k) % 52) := by
  rw [substByte, h]

theorem substByte_of_nonLetter (h : letterIndex c = none) : substByte k c = c := by
  rw [substByte, h]

theorem substByte_zero : substByte k 0 = 0 :=
  substByte_of_nonLetter k (by decide)

/-- R192: the running key counts mod 52. -/
theorem substByte_mod (c : Byte) : substByte (k % 52) c = substByte k c := by
  simp only [substByte, Nat.add_mod_mod]

/-- R191, R192: the index of a letter moves by the key and is mirrored. -/
theorem letterIndex_substByte (c : Byte) :
    letterIndex (substByte k c) = (letterIndex c).map fun i => 51 - (i + k) % 52 := by
  cases h : letterIndex c with
  | none => rw [substByte_of_nonLetter k h, h, Option.map_none]
  | some i => rw [substByte_of_letter k h, mirror, letterIndex_letterAt (by omega), Option.map_some]

theorem letterIndex_substByte_eq_none (c : Byte) : letterIndex (substByte k c) = none ↔ letterIndex c = none := by
  rw [letterIndex_substByte, Option.map_eq_none_iff]

/-- R193: moving the mirrored index by the same key and mirroring it again gives the index back. -/
theorem substByte_substByte (c : Byte) : substByte k (substByte k c) = c := by
  cases h : letterIndex c with
  | none => rw [substByte_of_nonLetter k h, substByte_of_nonLetter k h]
  | some i =>
    have hmoved : letterIndex (substByte k c) = some (51 - (i + k) % 52) := by
      rw [letterIndex_substByte, h, Option.map_some]
    obtain ⟨hi, hletter⟩ := letterAt_of_letterIndex h
    have hback : 51 - (51 - (i + k) % 52 + k) % 52 = i := by omega
    rw [substByte_of_letter k hmoved, mirror, hback, hletter]

/-- R193: no zero byte is made, because the way back from one is a zero byte. -/
theorem substByte_eq_zero (c : Byte) : substByte k c = 0 ↔ c = 0 := by
  constructor
  · intro h
    rw [← substByte_substByte k c, h, substByte_zero]
  · rintro rfl
    exact substByte_zero k

end

/-! ### The transform -/

theorem transformFrom_zero_cons (k : Nat) (rest : List Byte) : transformFrom k (0 :: rest) = (0 :: rest, 0) :=
  if_pos rfl

theorem transformFrom_cons (k : Nat) {c : Byte} (hc : c ≠ 0) (rest : List Byte) :
    transformFrom k (c :: rest) =
      (substByte k c :: (transformFrom ((k + 1) % 52) rest).1, (transformFrom ((k + 1) % 52) rest).2 + 1) :=
  if_neg hc

theorem logical_zero_cons (rest : List Byte) : logical (0 :: rest) = [] := rfl

theorem logical_cons {c : Byte} (hc : c ≠ 0) (rest : List Byte) : logical (c :: rest) = c :: logical rest :=
  List.takeWhile_cons_of_pos (bne_iff_ne.2 hc)

theorem transformFrom_count (k : Nat) (buf : List Byte) : (transformFrom k buf).2 = (logical buf).length := by
  induction buf generalizing k with
  | nil => rfl
  | cons c rest ih =>
    by_cases hc : c = 0
    · rw [hc, transformFrom_zero_cons, logical_zero_cons, List.length_nil]
    · rw [transformFrom_cons k hc, logical_cons hc, List.length_cons, ih]

/-- R192: before the first zero byte the key of a position is the first key plus the position; from it on nothing
moves. -/
theorem transformFrom_getElem (k : Nat) (buf : List Byte) (p : Nat) (h : p < buf.length) :
    (transformFrom k buf).1[p]'(by rwa [transformFrom_length]) =
      if p < (logical buf).length then substByte (k + p) buf[p] else buf[p] := by
  induction buf generalizing k p with
  | nil => exact absurd h (Nat.not_lt_zero p)
  | cons c rest ih =>
    by_cases hc : c = 0
    · subst hc
      simp only [transformFrom_zero_cons, logical_zero_cons, List.length_nil, Nat.not_lt_zero, if_false]
    · simp only [transformFrom_cons k hc, logical_cons hc]
      cases p with
      | zero => simp
      | succ p =>
        have hkey (b : Byte) : substByte ((k + 1) % 52 + p) b = substByte (k + (p + 1)) b := by
          rw [← substByte_mod, Nat.mod_add_mod, substByte_mod, Nat.add_right_comm, Nat.add_assoc]
        simp only [List.getElem_cons_succ, List.length_cons, Nat.add_lt_add_iff_right]
        rw [ih, hkey]

/-- R193: the zero byte that stops the loop stays where it is, so the way back meets the same keys. -/
theorem transformFrom_transformFrom (k : Nat) (buf : List Byte) :
    (transformFrom k (transformFrom k buf).1).1 = buf := by
  induction buf generalizing k with
  | nil => rfl
  | cons c rest ih =>
    by_cases hc : c = 0
    · rw [hc, transformFrom_zero_cons, transformFrom_zero_cons]
    · have hne : substByte k c ≠ 0 := mt (substByte_eq_zero k c).1 hc
      rw [transformFrom_cons k hc, transformFrom_cons k hne, substByte_substByte, ih]

/-- Settles O41: every position holds its own byte or that byte under one running key. -/
theorem transformIsSelfReciprocal : Obligations.TransformIsSelfReciprocal := by
  unfold Obligations.TransformIsSelfReciprocal
  refine fun buf k => ⟨transformFrom_transformFrom _ buf, transform_length buf k, fun p h _ => ?_⟩
  simp only [transform, transformFrom_getElem _ buf p h]
  split_ifs
  · exact ⟨substByte_eq_zero _ _, letterIndex_substByte_eq_none _ _, substByte_of_nonLetter _⟩
  · exact ⟨Iff.rfl, Iff.rfl, fun _ => rfl⟩

/-- Settles O42, by what the transform holds at each position. -/
theorem transformByPosition : Obligations.TransformByPosition := by
  unfold Obligations.TransformByPosition
  refine fun buf k => ⟨transformFrom_count _ buf, transform_length buf k, fun p h _ => ?_⟩
  simp only [transform, transformFrom_getElem _ buf p h]
  refine ⟨fun hp => ?_, fun hp => if_neg (Nat.not_lt.2 hp)⟩
  rw [if_pos hp]
  refine ⟨fun i hi => ?_, substByte_of_nonLetter _⟩
  have hkey : (i + (k.toNat % 52 + p)) % 52 = (i + k.toNat + p) % 52 := by omega
  rw [substByte_of_letter _ hi, hkey]

/-! ### SUBST -/

section
variable {s : State}

theorem exec_subst_of_badOperands (h : 255 < s.arg0.toNat ∨ 256 < s.arg1.toNat) :
    exec .subst s = raise .subst .invalidArgument s := by
  rw [exec, execSubst]
  simp only [substKeyOk_eq_false, bufferLengthOk_eq_false]
  split_ifs with hkey hlen
  · rfl
  · rfl
  · exact absurd h (not_or_intro hkey hlen)

theorem exec_subst_of_goodOperands (hkey : s.arg0.toNat ≤ 255) (hlen : s.arg1.toNat ≤ 256) :
    exec .subst s = succeed .subst (successEffect .subst s) := by
  rw [exec, execSubst, if_neg (by rwa [substKeyOk_eq_false, Nat.not_lt]),
    if_neg (by rwa [bufferLengthOk_eq_false, Nat.not_lt]), successEffect]

/-- R195: the count of a buffer of up to 256 bytes fits RES0. -/
theorem toNat_transform_count {buf : List Byte} (h : buf.length ≤ 256) (k : Byte) :
    (BitVec.ofNat 32 (transform buf k).2).toNat = (transform buf k).2 := by
  have hle : (transform buf k).2 ≤ buf.length := transformFrom_count_le _ buf
  rw [BitVec.toNat_ofNat, Nat.mod_eq_of_lt (by omega)]

/-- R195: a store of n bytes from DBUF[0] on leaves every other byte alone. -/
theorem unchangedOutside_setDbuf {b : List Byte} {n : Nat} (h : b.length = n) :
    unchangedOutside s.mem (s.setDbuf 0 b).mem 0x200 n := by
  intro x hx
  rw [State.setDbuf_mem, Memory.read_writeBytes_outside]
  rwa [h]

end

/-- Settles O43, by the two checks and the store of the transform in DBUF. -/
theorem substResult : Obligations.SubstResult := by
  unfold Obligations.SubstResult
  refine ⟨rfl, fun s => ⟨fun hkey hlen => ?_, fun hbad => ?_⟩⟩
  · have hout : (transform (s.dbuf 0 s.arg1.toNat) (s.arg0.extractLsb' 0 8)).1.length = s.arg1.toNat := by
      rw [transform_length, State.dbuf_length]
    refine ⟨_, exec_subst_of_goodOperands hkey hlen, ?_, ?_, rfl, ?_⟩
    · exact State.dbuf_setDbuf s 0 _ _ hout
    · exact toNat_transform_count (by rwa [State.dbuf_length]) _
    · exact unchangedOutside_setDbuf hout
  · rw [exec_subst_of_badOperands hbad]
    rfl

/-! ### SUBST_KEY -/

/-- R194: a byte of a word counts mod 256 like the word shifted down to it. -/
theorem perEntryKey_toNat (toc index : Word) :
    (perEntryKey toc index).toNat =
      ((firstOutput (toc + index)).toNat / 2 ^ 24 + (firstOutput (toc + index)).toNat / 2 ^ 16 +
        (firstOutput (toc + index)).toNat / 2 ^ 8 + (firstOutput (toc + index)).toNat) % 256 := by
  simp only [perEntryKey, BitVec.toNat_add, BitVec.extractLsb'_toNat, Nat.shiftRight_eq_div_pow]
  omega

/-- R196: the key depends on the wrapped sum alone. -/
theorem perEntryKey_eq_of_add_eq {toc index toc' index' : Word} (h : toc + index = toc' + index') :
    perEntryKey toc index = perEntryKey toc' index' := by
  rw [perEntryKey, perEntryKey, h]

/-- Settles O44: a byte fits RES0, and both sums are the key's mod 256. -/
theorem substKeyIsByteSum : Obligations.SubstKeyIsByteSum := by
  unfold Obligations.SubstKeyIsByteSum
  refine ⟨rfl, fun s => ?_, fun toc index => ⟨?_, ?_⟩, perEntryKey_eq_of_add_eq rfl⟩
  · have hkey : ((perEntryKey s.arg0 s.arg1).setWidth 32).toNat = (perEntryKey s.arg0 s.arg1).toNat :=
      BitVec.toNat_setWidth_of_le (by decide)
    exact ⟨_, rfl, hkey, hkey.trans_le (Nat.le_of_lt_succ (perEntryKey s.arg0 s.arg1).isLt), rfl⟩
  · rw [perEntryKey_toNat]
    omega
  · rw [perEntryKey_toNat]
    simp only [BitVec.toNat_add, BitVec.toNat_ushiftRight, Nat.shiftRight_eq_div_pow]
    omega

end Sys2Proof.Machine
end

section
/-! Proofs about the archive commands one by one (44_archive.md R211, R214 to R222, R224, 45_control.md R250).

`exec_arcHeader_of_available` and `exec_arcEntry_cases` say once what the two commands do with ARG1 in its range:
an archive error, or the effect of their success. -/

namespace Sys2Proof.Machine

/-! ### The metadata -/

theorem sum_range_eight (f : Nat → Nat) :
    ((List.range 8).map f).sum = f 0 + f 1 + f 2 + f 3 + f 4 + f 5 + f 6 + f 7 := by
  simp only [List.sum_range_succ, List.range_zero, List.map_nil, List.sum_nil, Nat.zero_add]

/-- R17: the 64-bit value of an 8-byte string, as the sum of its weighted bytes. -/
theorem le64_toNat_eq_sum {m : List Byte} (h : m.length = 8) :
    (le64 m).toNat = ((List.range 8).map fun k => (m.getD k 0).toNat * 2 ^ (8 * k)).sum := by
  match m, h with
  | [b0, b1, b2, b3, b4, b5, b6, b7], _ =>
    rw [le64_toNat, sum_range_eight]
    simp

/-- Settles O46: the block that is decrypted is the bytes of the 64-bit sum. -/
theorem metadataAddWrapsAt64Bits : Obligations.MetadataAddWrapsAt64Bits := by
  unfold Obligations.MetadataAddWrapsAt64Bits
  intro k m i hm
  refine ⟨bytesLe64 (le64 m + i.setWidth 64), rfl, rfl, ?_, bytesLe64_le64_of_length hm, le64_toNat_eq_sum hm⟩
  rw [le64_bytesLe64, BitVec.toNat_add, BitVec.toNat_setWidth_of_le (by decide)]

section
variable {s : State}

/-! ### ARC_TOC_SET and ARC_TOC_CLR -/

theorem exec_arcTocSet_of_entries (h : s.arcState = .entries) :
    exec .arcTocSet s = raise .arcTocSet .stateError s :=
  if_pos h

theorem exec_arcTocSet_of_not_entries (h : s.arcState ≠ .entries) :
    exec .arcTocSet s = succeed .arcTocSet (successEffect .arcTocSet s) :=
  if_neg h

theorem exec_arcTocClr_of_entries (h : s.arcState = .entries) :
    exec .arcTocClr s = raise .arcTocClr .stateError s :=
  if_pos h

theorem exec_arcTocClr_of_not_entries (h : s.arcState ≠ .entries) :
    exec .arcTocClr s = succeed .arcTocClr (successEffect .arcTocClr s) :=
  if_neg h

/-! ### ARC_HEADER -/

theorem not_availableOk_eq_false {n : Nat} (h : n ≤ 72) : ¬ availableOk n = false := by
  rwa [availableOk_eq_false, Nat.not_lt]

theorem exec_arcHeader_of_tooMany (h : 72 < s.arg1.toNat) :
    exec .arcHeader s = raise .arcHeader .invalidArgument s :=
  if_pos ((availableOk_eq_false _).2 h)

/-- R216: with ARG1 in its range, the magic is checked and then the length. -/
theorem exec_arcHeader_of_available (h : s.arg1.toNat ≤ 72) :
    exec .arcHeader s =
      if s.arg1.toNat < 4 ∨ s.ebuf 0 4 ≠ s.params.magic.toList then
        archiveError .arcHeader .badSignature s.newArchive
      else if s.arg1.toNat < 8 then archiveError .arcHeader .truncatedEntry s.newArchive
      else succeed .arcHeader (successEffect .arcHeader s) :=
  if_neg (not_availableOk_eq_false h)

/-- R216: a count is 0 exactly when its archive is Done at once. -/
theorem headerState_eq (count : Word) :
    (if 0 < count.toNat then ArcState.entries else .done) = if count = 0 then .done else .entries := by
  by_cases h : count = 0
  · rw [if_pos h, if_neg (by simp [h])]
  · have hpos : 0 < count.toNat := Nat.pos_of_ne_zero fun h0 => h (BitVec.eq_of_toNat_eq h0)
    rw [if_neg h, if_pos hpos]

/-! ### ARC_ENTRY -/

/-- R219: the record in EBUF is a data entry of an encrypted archive, and no table-of-contents seed is available. -/
def State.lacksTocSeed (s : State) : Prop :=
  isKeyEntry s.params.keyMarker (s.ebuf 0 64) = false ∧ s.arcEnc = true ∧ s.tocValid = false

/-- R217: outside an archive ARC_ENTRY has no meaning. -/
theorem exec_arcEntry_of_not_entries (hlen : s.arg1.toNat ≤ 72) (hst : s.arcState ≠ .entries) :
    exec .arcEntry s = raise .arcEntry .stateError s := by
  rw [exec, execArcEntry, if_neg (not_availableOk_eq_false hlen), if_pos hst]

theorem exec_arcEntry_of_truncated (hlen : s.arg1.toNat < 72) (hst : s.arcState = .entries) :
    exec .arcEntry s = archiveError .arcEntry .truncatedEntry s := by
  rw [exec, execArcEntry, if_neg (not_availableOk_eq_false (Nat.le_of_lt hlen)), if_neg (not_not_intro hst),
    if_pos hlen]

/-- R217 to R220: a whole record, by its branch. -/
theorem exec_arcEntry_of_record (hlen : s.arg1.toNat = 72) (hst : s.arcState = .entries) :
    exec .arcEntry s =
      if isKeyEntry s.params.keyMarker (s.ebuf 0 64) = true then succeed .arcEntry s.keyEntry.advanceEntry
      else if s.arcEnc = true then
        if s.tocValid = false then archiveError .arcEntry .missingTocSeed s
        else succeed .arcEntry s.decryptRecord.emitRow.advanceEntry
      else succeed .arcEntry s.emitRow.advanceEntry := by
  rw [exec, execArcEntry, hlen, if_neg (by decide), if_neg (not_not_intro hst), if_neg (by decide)]

theorem exec_arcEntry_of_lacksTocSeed (hlen : s.arg1.toNat = 72) (hst : s.arcState = .entries)
    (h : s.lacksTocSeed) : exec .arcEntry s = archiveError .arcEntry .missingTocSeed s := by
  obtain ⟨hkey, henc, htoc⟩ := h
  rw [exec_arcEntry_of_record hlen hst, if_neg (ne_true_of_eq_false hkey), if_pos henc, if_pos htoc]

/-- R217: a record that needs no table-of-contents seed, or has one, succeeds. -/
theorem exec_arcEntry_of_not_lacksTocSeed (hlen : s.arg1.toNat = 72) (hst : s.arcState = .entries)
    (h : ¬ s.lacksTocSeed) : exec .arcEntry s = succeed .arcEntry (successEffect .arcEntry s) := by
  rw [exec_arcEntry_of_record hlen hst, successEffect]
  split_ifs with hkey henc htoc
  · rfl
  · exact absurd ⟨Bool.eq_false_of_not_eq_true hkey, henc, htoc⟩ h
  · rfl
  · rfl

/-- R217: in Entries ARC_ENTRY ends in an archive error or succeeds. -/
theorem exec_arcEntry_cases {t : State} (h : exec .arcEntry s = .next t) (hlen : s.arg1.toNat ≤ 72)
    (hst : s.arcState = .entries) :
    (∃ e, e ≠ .ok ∧ t = (s.archiveFatal e).complete (opcode .arcEntry) e) ∨
      t = (successEffect .arcEntry s).complete (opcode .arcEntry) .ok := by
  obtain htrunc | hrecord := Nat.lt_or_eq_of_le hlen
  · rw [exec_arcEntry_of_truncated htrunc hst, archiveError_eq_next] at h
    exact .inl ⟨_, ErrCode.noConfusion, h⟩
  · by_cases htoc : s.lacksTocSeed
    · rw [exec_arcEntry_of_lacksTocSeed hrecord hst htoc, archiveError_eq_next] at h
      exact .inl ⟨_, ErrCode.noConfusion, h⟩
    · rw [exec_arcEntry_of_not_lacksTocSeed hrecord hst htoc, succeed_eq_next] at h
      exact .inr h

theorem successEffect_arcEntry_arcIndex (s : State) : (successEffect .arcEntry s).arcIndex = s.arcIndex + 1 := by
  simp only [successEffect]
  split_ifs <;> rfl

/-- R218 to R220: every record that is no key entry emits a row. -/
theorem successEffect_arcEntry_arcRows (s : State) :
    (successEffect .arcEntry s).arcRows =
      if isKeyEntry s.params.keyMarker (s.ebuf 0 64) = true then s.arcRows else s.arcRows + 1 := by
  simp only [successEffect]
  split_ifs <;> rfl

theorem successEffect_arcEntry_arcState (h : s.arcState = .entries) :
    (successEffect .arcEntry s).arcState = if s.arcIndex + 1 = s.arcCount then .done else .entries := by
  rw [← h]
  simp only [successEffect]
  split
  · rfl
  · split
    · rfl
    · rfl

/-- R217: in Entries the index moves to the next record, or the archive is Done. -/
theorem State.advanceEntry_of_entries (h : s.arcState = .entries) :
    s.advanceEntry =
      { s with arcIndex := s.arcIndex + 1, arcState := if s.arcIndex + 1 = s.arcCount then .done else .entries } := by
  rw [State.advanceEntry, h]

/-- R217, R219, R220: everything a row writes. -/
theorem State.emitRow_advanceEntry_of_entries (h : s.arcState = .entries) :
    s.emitRow.advanceEntry =
      { s with
        arcRows := s.arcRows + 1, res0 := 1, res1 := s.emitRow.res1, res2 := s.arcIndex, arcIndex := s.arcIndex + 1
        arcState := if s.arcIndex + 1 = s.arcCount then .done else .entries } :=
  State.advanceEntry_of_entries ((State.emitRow_arcState s).trans h)

/-- R222: the trimmed length of a name fits RES1. -/
theorem State.toNat_emitRow_res1 (s : State) : s.emitRow.res1.toNat = trimLen (s.ebuf 0 64) := by
  have hle : trimLen (s.ebuf 0 64) ≤ 64 := (trimLen_le _).trans_eq (s.ebuf_length 0 64)
  rw [State.emitRow_res1, BitVec.toNat_ofNat, Nat.mod_eq_of_lt (by omega)]

end

/-! ### The record that is decrypted in place -/

theorem State.decryptRecord_name (s : State) :
    s.decryptRecord.ebuf 0 64 = (transform (s.ebuf 0 64) (perEntryKey s.tocSeed s.arcIndex)).1 := by
  rw [State.decryptRecord, State.ebuf_setEbuf_disjoint _ _ _ _ _ (.inl (by decide))]
  exact State.ebuf_setEbuf _ _ _ _ (by simp)

theorem State.decryptRecord_metadata (s : State) :
    s.decryptRecord.ebuf 64 8 = metaDecrypt s.bf (s.ebuf 64 8) s.arcIndex :=
  State.ebuf_setEbuf _ _ _ _ rfl

/-- R219: the name and the metadata are all of EBUF. -/
theorem State.decryptRecord_unchangedOutside (s : State) : unchangedOutside s.mem s.decryptRecord.mem 0x300 72 := by
  intro x hx
  rw [State.decryptRecord_mem, Memory.read_writeBytes_outside, Memory.read_writeBytes_outside]
  · simp only [Config.ebufBase, transform_length, State.ebuf_length]
    omega
  · simp only [Config.ebufBase, metaDecrypt_length]
    omega

/-! ### The commands -/

/-- Settles O48, by what each command does in each archive state. -/
theorem archiveSequencerTransitions : Obligations.ArchiveSequencerTransitions := by
  unfold Obligations.ArchiveSequencerTransitions
  refine fun s t => ⟨fun h hlen => ?header, fun h hlen => ⟨fun hst => ?outside, fun hst => ?entry⟩, fun h => ?abort,
    fun h => ?toc⟩
  case header =>
    rw [exec_arcHeader_of_available hlen] at h
    split_ifs at h
    · rw [(archiveError_eq_next ..).1 h]
      exact ⟨.inr (.inr rfl), rfl, rfl, rfl, rfl⟩
    · rw [(archiveError_eq_next ..).1 h]
      exact ⟨.inr (.inr rfl), rfl, rfl, rfl, rfl⟩
    · rw [(succeed_eq_next ..).1 h]
      refine ⟨?_, rfl, rfl, rfl, rfl⟩
      simp only [State.complete_arcState, successEffect]
      split_ifs
      · exact .inr (.inl rfl)
      · exact .inl rfl
  case outside =>
    rw [exec_arcEntry_of_not_entries hlen hst] at h
    exact (raise_eq_next ..).1 h
  case entry =>
    obtain ⟨e, he, rfl⟩ | rfl := exec_arcEntry_cases h hlen hst
    · exact .inr ⟨he, rfl, rfl⟩
    · refine .inl ⟨rfl, successEffect_arcEntry_arcIndex s, ?_⟩
      rw [State.complete_arcState, successEffect_arcEntry_arcState hst, State.complete_arcIndex,
        successEffect_arcEntry_arcIndex]
      split_ifs with hlast
      · exact .inl ⟨rfl, hlast⟩
      · exact .inr ⟨rfl, hlast⟩
  case abort =>
    rw [(succeed_eq_next ..).1 h]
    rfl
  case toc =>
    by_cases hst : s.arcState = .entries
    · rw [exec_arcTocSet_of_entries hst, exec_arcTocClr_of_entries hst, raise_eq_next, raise_eq_next] at h
      obtain rfl | rfl := h <;> exact ⟨rfl, iff_of_true rfl hst⟩
    · rw [exec_arcTocSet_of_not_entries hst, exec_arcTocClr_of_not_entries hst, succeed_eq_next, succeed_eq_next] at h
      obtain rfl | rfl := h <;> exact ⟨rfl, iff_of_false ErrCode.noConfusion hst⟩

/-- Settles O51, by the two stores in EBUF and the row. -/
theorem encryptedEntryIsDecrypted : Obligations.EncryptedEntryIsDecrypted := by
  unfold Obligations.EncryptedEntryIsDecrypted
  intro s harg hst hkey henc
  have hlen : s.arg1.toNat = 72 := congrArg BitVec.toNat harg
  constructor
  · intro htoc
    have hexec : exec .arcEntry s = succeed .arcEntry s.decryptRecord.emitRow.advanceEntry := by
      rw [exec_arcEntry_of_record hlen hst, if_neg (ne_true_of_eq_false hkey), if_pos henc,
        if_neg (ne_false_of_eq_true htoc)]
    refine ⟨_, hexec, s.decryptRecord_name, s.decryptRecord_metadata, s.decryptRecord_unchangedOutside,
      s.decryptRecord.toNat_emitRow_res1, ?_⟩
    rw [State.emitRow_advanceEntry_of_entries ((State.decryptRecord_arcState s).trans hst)]
    rfl
  · intro htoc
    rw [exec_arcEntry_of_lacksTocSeed hlen hst ⟨hkey, henc, htoc⟩]
    rfl

/-- Settles O47, by the archive state. -/
theorem tocSeedCommands : Obligations.TocSeedCommands := by
  unfold Obligations.TocSeedCommands
  refine ⟨rfl, rfl, fun s => ⟨fun hst => ?_, fun hst => ?_⟩⟩
  · rw [exec_arcTocSet_of_not_entries hst, exec_arcTocClr_of_not_entries hst]
    exact ⟨rfl, rfl⟩
  · rw [exec_arcTocSet_of_entries hst, exec_arcTocClr_of_entries hst]
    exact ⟨rfl, rfl⟩

/-- Settles O49, by the checks of ARC_HEADER in their order. -/
theorem arcHeaderResult : Obligations.ArcHeaderResult := by
  unfold Obligations.ArcHeaderResult
  refine ⟨rfl, fun s => ⟨fun hmany => ?_, fun hle hbad => ?_, fun h4 h8 hmagic => ?_, fun h8 hle hmagic => ?_⟩⟩
  · rw [exec_arcHeader_of_tooMany hmany]
    rfl
  · rw [exec_arcHeader_of_available hle, if_pos hbad]
    rfl
  · have hgood : ¬ (s.arg1.toNat < 4 ∨ s.ebuf 0 4 ≠ s.params.magic.toList) :=
      not_or_intro (Nat.not_lt.2 h4) (not_not_intro hmagic)
    rw [exec_arcHeader_of_available (by omega), if_neg hgood, if_pos h8]
    rfl
  · have hgood : ¬ (s.arg1.toNat < 4 ∨ s.ebuf 0 4 ≠ s.params.magic.toList) :=
      not_or_intro (by omega) (not_not_intro hmagic)
    rw [exec_arcHeader_of_available hle, if_neg hgood, if_neg (Nat.not_lt.2 h8), headerState_eq]
    rfl

/-- Settles O50, by the first branch of ARC_ENTRY. -/
theorem keyEntryBuildsSchedule : Obligations.KeyEntryBuildsSchedule := by
  unfold Obligations.KeyEntryBuildsSchedule
  refine ⟨rfl, fun s harg hst hkey => ?_⟩
  rw [exec_arcEntry_of_record (congrArg BitVec.toNat harg) hst, if_pos hkey,
    State.advanceEntry_of_entries (s := s.keyEntry) hst]
  rfl

/-- Settles O52, by the last branch of ARC_ENTRY. -/
theorem plainEntryPassesThrough : Obligations.PlainEntryPassesThrough := by
  unfold Obligations.PlainEntryPassesThrough
  intro s harg hst hkey henc
  have hexec : exec .arcEntry s = succeed .arcEntry s.emitRow.advanceEntry := by
    rw [exec_arcEntry_of_record (congrArg BitVec.toNat harg) hst, if_neg (ne_true_of_eq_false hkey),
      if_neg (ne_true_of_eq_false henc)]
  refine ⟨_, hexec, s.toNat_emitRow_res1, ?_⟩
  rw [State.emitRow_advanceEntry_of_entries hst]
  rfl

/-- Settles O53: neither command checks anything. -/
theorem abortAndNopResults : Obligations.AbortAndNopResults := by
  unfold Obligations.AbortAndNopResults
  exact ⟨rfl, rfl, fun s => ⟨rfl, rfl⟩⟩

end Sys2Proof.Machine
end

section
/-! Proof about an archive decoded record by record (44_archive.md R217 to R223).

`State.Decoding n` holds of an archive with n records to come, its last one included, so the induction over the records
needs no case of its own for the last record. -/

namespace Sys2Proof.Machine

/-! ### One record -/

/-- R210: the host puts a record into EBUF and its length into ARG1. -/
def State.offer (s : State) (r : List Byte) : State := { s with arg1 := 72 }.setEbuf 0 r

/-- EBUF begins with the bytes just stored from its first byte on. -/
theorem State.ebuf_setEbuf_take (s : State) {n : Nat} {b : List Byte} (h : n ≤ b.length) :
    (s.setEbuf 0 b).ebuf 0 n = b.take n := by
  apply List.ext_getElem
  · simp [h]
  · intro k hk hk'
    have hkb : k < b.length := Nat.lt_of_lt_of_le hk' (List.length_take_le' n b)
    rw [List.getElem_take]
    exact (Memory.readBytes_getElem ..).trans (Memory.read_writeBytes_inside _ _ b hkb)

/-- R217: the state after a record that succeeds. -/
def State.decoded (s : State) (r : List Byte) : State :=
  (successEffect .arcEntry (s.offer r)).complete (opcode .arcEntry) .ok

section
variable {s : State} {r : List Byte}

theorem exec_offer_of_not_lacksTocSeed (h : s.arcState = .entries) (hseed : ¬ (s.offer r).lacksTocSeed) :
    exec .arcEntry (s.offer r) = .next (s.decoded r) :=
  exec_arcEntry_of_not_lacksTocSeed rfl h hseed

theorem State.decoded_arcIndex : (s.decoded r).arcIndex = s.arcIndex + 1 :=
  successEffect_arcEntry_arcIndex (s.offer r)

theorem State.decoded_arcState (h : s.arcState = .entries) :
    (s.decoded r).arcState = if s.arcIndex + 1 = s.arcCount then .done else .entries :=
  successEffect_arcEntry_arcState (s := s.offer r) h

/-- R218 to R220: a record is a key entry by the 64 bytes of its name. -/
theorem State.decoded_arcRows (h : r.length = 72) :
    (s.decoded r).arcRows =
      if isKeyEntry s.params.keyMarker (r.take 64) = true then s.arcRows else s.arcRows + 1 := by
  have hname : (s.offer r).ebuf 0 64 = r.take 64 := State.ebuf_setEbuf_take _ (by omega)
  rw [← hname]
  exact successEffect_arcEntry_arcRows (s.offer r)

theorem State.decoded_arcCount : (s.decoded r).arcCount = s.arcCount :=
  (keeps_successEffect .arcEntry (s.offer r)).arcCount (by decide)

theorem State.decoded_tocValid : (s.decoded r).tocValid = s.tocValid :=
  (keeps_successEffect .arcEntry (s.offer r)).tocValid (by decide)

theorem State.decoded_params : (s.decoded r).params = s.params := by
  obtain ⟨hparams, -⟩ := (keeps_successEffect .arcEntry (s.offer r)).modelOwn
  exact hparams

theorem decodeRecords_cons {t : State} (h : exec .arcEntry (s.offer r) = .next t) (rest : List (List Byte)) :
    decodeRecords (r :: rest) s = decodeRecords rest t := by
  have hexec : exec .arcEntry (State.setEbuf { s with arg1 := 72 } 0 r) = .next t := h
  simp only [decodeRecords, hexec]

end

theorem keyEntries_cons (marker : Vector Byte 11) (r : List Byte) (rest : List (List Byte)) :
    keyEntries marker (r :: rest) = keyEntries marker rest + if isKeyEntry marker (r.take 64) = true then 1 else 0 := by
  unfold keyEntries
  rw [List.filter_cons]
  split <;> rfl

/-! ### All records -/

/-- R264: an archive that has left Entries stays as it is until the next header. -/
theorem decodeRecords_of_not_entries (records : List (List Byte)) {s : State} (h : s.arcState ≠ .entries) :
    ∃ t, decodeRecords records s = .next t ∧ t.arcState = s.arcState := by
  induction records generalizing s with
  | nil => exact ⟨s, rfl, rfl⟩
  | cons r rest ih =>
    have hexec : exec .arcEntry (s.offer r) = raise .arcEntry .stateError (s.offer r) :=
      exec_arcEntry_of_not_entries (Nat.le_refl 72) h
    rw [decodeRecords_cons hexec]
    exact ih (s := (s.offer r).complete _ _) h

/-- R217, R223: an archive with n records to come: it is in Entries while there are some, and its rows are no more than
the records before. -/
structure State.Decoding (s : State) (n : Nat) : Prop where
  left : s.arcIndex.toNat + n = s.arcCount.toNat
  state : s.arcState = if s.arcIndex = s.arcCount then .done else .entries
  rows : s.arcRows.toNat ≤ s.arcIndex.toNat

section
variable {s : State} {n : Nat}

theorem State.Decoding.arcState_of_zero (h : s.Decoding 0) : s.arcState = .done :=
  h.state.trans (if_pos (BitVec.eq_of_toNat_eq h.left))

theorem State.Decoding.arcState_of_succ (h : s.Decoding (n + 1)) : s.arcState = .entries := by
  refine h.state.trans (if_neg fun heq => ?_)
  have hleft := h.left
  rw [heq] at hleft
  omega

/-- R33: the counters of an archive do not wrap. -/
theorem State.Decoding.toNat_arcIndex_succ (h : s.Decoding (n + 1)) :
    (s.arcIndex + 1).toNat = s.arcIndex.toNat + 1 := by
  have hleft := h.left
  exact toNat_add_one_of_lt (b := s.arcCount) (by omega)

theorem State.Decoding.toNat_arcRows_succ (h : s.Decoding (n + 1)) : (s.arcRows + 1).toNat = s.arcRows.toNat + 1 := by
  have hleft := h.left
  have hrows := h.rows
  exact toNat_add_one_of_lt (b := s.arcCount) (by omega)

/-- R223: a record is a row or a key entry. -/
theorem State.Decoding.row_or_keyEntry (h : s.Decoding (n + 1)) {r : List Byte} (hr : r.length = 72) :
    (s.decoded r).arcRows.toNat + (if isKeyEntry s.params.keyMarker (r.take 64) = true then 1 else 0) =
      s.arcRows.toNat + 1 := by
  rw [State.decoded_arcRows hr]
  split_ifs
  · rfl
  · exact h.toNat_arcRows_succ

/-- R217: a record that succeeds leaves one record less. -/
theorem State.Decoding.decoded (h : s.Decoding (n + 1)) {r : List Byte} (hr : r.length = 72) :
    (s.decoded r).Decoding n where
  left := by
    rw [State.decoded_arcIndex, State.decoded_arcCount, h.toNat_arcIndex_succ, ← h.left]
    omega
  state := by
    rw [State.decoded_arcState h.arcState_of_succ, State.decoded_arcIndex, State.decoded_arcCount]
  rows := by
    have hcounted := h.row_or_keyEntry hr
    have hrows := h.rows
    rw [State.decoded_arcIndex, h.toNat_arcIndex_succ]
    omega

/-- R223: every record of an archive that ends Done was a row or a key entry. -/
theorem State.Decoding.run {records : List (List Byte)} (h : s.Decoding records.length)
    (hr : ∀ r ∈ records, r.length = 72) :
    ∃ t, decodeRecords records s = .next t ∧ (s.tocValid = true → t.arcState = .done) ∧
      (t.arcState = .done →
        t.arcRows.toNat + keyEntries s.params.keyMarker records = s.arcRows.toNat + records.length ∧
          t.arcCount = s.arcCount) := by
  induction records generalizing s with
  | nil => exact ⟨s, rfl, fun _ => h.arcState_of_zero, fun _ => ⟨rfl, rfl⟩⟩
  | cons r rest ih =>
    obtain ⟨hr0, hrest⟩ := List.forall_mem_cons.1 hr
    by_cases hseed : (s.offer r).lacksTocSeed
    · have hexec := exec_arcEntry_of_lacksTocSeed (s := s.offer r) rfl h.arcState_of_succ hseed
      obtain ⟨t, hrun, ht⟩ := decodeRecords_of_not_entries rest
        (s := ((s.offer r).archiveFatal .missingTocSeed).complete (opcode .arcEntry) .missingTocSeed)
        ArcState.noConfusion
      obtain ⟨-, -, hinvalid⟩ := hseed
      refine ⟨t, (decodeRecords_cons hexec rest).trans hrun, fun hvalid => ?_, fun hdone => ?_⟩
      · exact Bool.noConfusion (hvalid.symm.trans hinvalid)
      · exact ArcState.noConfusion (hdone.symm.trans ht)
    · obtain ⟨t, hrun, htoc, hdone⟩ := ih (h.decoded hr0) hrest
      rw [State.decoded_tocValid] at htoc
      rw [State.decoded_params, State.decoded_arcCount] at hdone
      have hexec := exec_offer_of_not_lacksTocSeed h.arcState_of_succ hseed
      refine ⟨t, (decodeRecords_cons hexec rest).trans hrun, htoc, fun ht => ?_⟩
      obtain ⟨hsum, hcount⟩ := hdone ht
      have hcounted := h.row_or_keyEntry hr0
      rw [keyEntries_cons, List.length_cons]
      exact ⟨by omega, hcount⟩

end

/-- R216, R223: an archive with a record, before its first one. -/
theorem State.decoding_of_first {s : State} (hst : s.arcState = .entries) (hindex : s.arcIndex = 0)
    (hrows : s.arcRows = 0) (hpos : 0 < s.arcCount.toNat) : s.Decoding s.arcCount.toNat where
  left := by
    rw [hindex]
    exact Nat.zero_add _
  state := by
    have hne : s.arcIndex ≠ s.arcCount := fun heq => by simp [← heq, hindex] at hpos
    rw [hst, if_neg hne]
  rows := by rw [hindex, hrows]

/-- Settles O54, by induction over the records from the archive's first one. -/
theorem rowsAreCountLessKeyEntries : Obligations.RowsAreCountLessKeyEntries := by
  unfold Obligations.RowsAreCountLessKeyEntries
  intro s records hst hindex hrows hne hcount hr
  have hpos : 0 < s.arcCount.toNat := hcount ▸ List.length_pos_of_ne_nil hne
  have hstart : s.Decoding records.length := hcount ▸ State.decoding_of_first hst hindex hrows hpos
  obtain ⟨t, hrun, htoc, hdone⟩ := hstart.run hr
  refine ⟨t, hrun, htoc, fun ht => ?_⟩
  obtain ⟨hsum, hkept⟩ := hdone ht
  have hzero : s.arcRows.toNat = 0 := congrArg BitVec.toNat hrows
  refine ⟨?_, hkept⟩
  rw [hkept, ← hcount]
  omega

end Sys2Proof.Machine
end

section
/-! Proofs about CORE_RESET and about the contents no command reads: the generator's words while the cursor is 625 and
the schedule while BF_VALID = 0 (45_control.md R251, 40_prng.md R109, R110, 93_implementation_defined.md U1).

`exec_mapContents` says that a change of the words commutes with every command that does not work on the generator, and
a change of the schedule with every command that does not work on the schedule. What is left are the commands that do:
with the cursor at 625 a generator command overwrites the words unread, and with BF_VALID = 0 a schedule command
overwrites the schedule or keeps it, and reads it in neither case. -/

namespace Sys2Proof.Machine

/-- Settles O55: CORE_RESET checks nothing and writes what R251 lists. -/
theorem coreResetResult : Obligations.CoreResetResult := by
  unfold Obligations.CoreResetResult
  exact ⟨rfl, fun _ => rfl⟩

/-! ### A change of the words and the schedule -/

/-- The state with the generator's words changed by `f` and the schedule by `g`. -/
def State.mapContents (f : Vector Word 624 → Vector Word 624) (g : Schedule → Schedule) (s : State) : State :=
  { s with mtState := f s.mtState, bf := g s.bf }

/-- An outcome with `f` applied to its next state. -/
def onNext (f : State → State) (o : Host.Outcome State Fault Refusal) : Host.Outcome State Fault Refusal :=
  match o with
  | .next t => .next (f t)
  | .fault r => .fault r
  | .refused r => .refused r

section
variable (f : Vector Word 624 → Vector Word 624) (g : Schedule → Schedule) (s : State)

theorem onNext_raise (i : Instr) (e : ErrCode) :
    onNext (State.mapContents f g) (raise i e s) = raise i e (s.mapContents f g) := rfl

theorem onNext_succeed (i : Instr) :
    onNext (State.mapContents f g) (succeed i s) = succeed i (s.mapContents f g) := rfl

theorem onNext_archiveError (i : Instr) (e : ErrCode) :
    onNext (State.mapContents f g) (archiveError i e s) = archiveError i e (s.mapContents f g) := rfl

theorem State.seeded_mapContents (seed : Word) :
    (s.mapContents id g).seeded seed = (s.seeded seed).mapContents id g := by
  simp only [State.seeded, State.mapContents, id_eq]

theorem State.twisted_mapContents : (s.mapContents id g).twisted = s.twisted.mapContents id g := by
  by_cases h : s.mtCursor = 625
  · rw [State.twisted_of_unseeded h, State.twisted_of_unseeded (s := s.mapContents id g) h]
    simp only [State.mapContents, id_eq]
  · rw [State.twisted_of_seeded h, State.twisted_of_seeded (s := s.mapContents id g) h]
    simp only [State.mapContents, id_eq]

theorem State.readyForNext_mapContents :
    (s.mapContents id g).readyForNext = s.readyForNext.mapContents id g := by
  rw [State.readyForNext, State.readyForNext, apply_ite (State.mapContents id g), State.twisted_mapContents]
  rfl

theorem State.withSchedule_mapContents (key : List Byte) (owner : Bool) (keylen : BitVec 6) :
    (s.mapContents f id).withSchedule key owner keylen = (s.withSchedule key owner keylen).mapContents f id := by
  simp only [State.withSchedule, State.mapContents, id_eq]

theorem State.keyEntry_mapContents : (s.mapContents f id).keyEntry = s.keyEntry.mapContents f id := by
  simp only [State.keyEntry, State.withSchedule_mapContents]
  rfl

theorem State.decryptRecord_mapContents :
    (s.mapContents f id).decryptRecord = s.decryptRecord.mapContents f id := rfl

theorem State.emitRow_mapContents : (s.mapContents f g).emitRow = s.emitRow.mapContents f g := rfl

theorem State.advanceEntry_mapContents : (s.mapContents f g).advanceEntry = s.advanceEntry.mapContents f g := rfl

theorem State.mapBlocks_mapContents (b : List Byte → List Byte) (n : Nat) :
    (s.mapContents f g).mapBlocks b n = (s.mapBlocks b n).mapContents f g := by
  induction n with
  | zero => rfl
  | succ n ih =>
    rw [State.mapBlocks_succ, State.mapBlocks_succ, ih]
    rfl

/-- R140, R141: the data commands, for a fixed transformation of the blocks. -/
theorem dataCommand_mapContents (i : Instr) (b : List Byte → List Byte) :
    dataCommand i b (s.mapContents f g) = onNext (State.mapContents f g) (dataCommand i b s) := by
  have hblocks : (s.mapContents f g).mapBlocks b ((s.mapContents f g).arg1.toNat / 8) =
      (s.mapBlocks b (s.arg1.toNat / 8)).mapContents f g := s.mapBlocks_mapContents f g b _
  simp only [dataCommand, apply_ite (onNext _), hblocks]
  rfl

theorem exec_seedDerive_mapContents :
    exec .seedDerive (s.mapContents f g) = onNext (State.mapContents f g) (exec .seedDerive s) := by
  cases hseed : (keyTypeOf s.arg0).bind seedOfKeyType with
  | none =>
    have htag := (keyType_unsupported s.arg0).1 hseed
    rw [exec_seedDerive_of_unsupported htag, exec_seedDerive_of_unsupported (s := s.mapContents f g) htag]
    rfl
  | some seed =>
    rw [exec_seedDerive_of_supported hseed, exec_seedDerive_of_supported (s := s.mapContents f g) hseed,
      apply_ite (onNext _)]
    rfl

end

/-- A change of the words commutes with every command but the three that work on the words, and a change of the schedule
with every command but the six that work on the schedule. -/
theorem exec_mapContents {f : Vector Word 624 → Vector Word 624} {g : Schedule → Schedule} {i : Instr}
    (hf : i ∈ [.mtSeed, .mtTwist, .mtNext] → f = id)
    (hg : i ∈ [.bfKey, .bfEncb, .bfDecb, .bfEnc, .bfDec, .arcEntry] → g = id) (s : State) :
    exec i (s.mapContents f g) = onNext (State.mapContents f g) (exec i s) := by
  cases i
  case mtSeed =>
    obtain rfl := hf (by decide)
    rw [exec, exec, execMtSeed, execMtSeed, onNext_succeed, ← State.seeded_mapContents]
    rfl
  case mtTwist =>
    obtain rfl := hf (by decide)
    rw [exec, exec, execMtTwist, execMtTwist, onNext_succeed, State.twisted_mapContents]
  case mtNext =>
    obtain rfl := hf (by decide)
    simp only [exec, execMtNext, State.readyForNext_mapContents]
    rfl
  case bfKey =>
    obtain rfl := hg (by decide)
    simp only [exec, execBfKey, apply_ite (onNext _), State.withSchedule_mapContents]
    rfl
  case bfEncb | bfDecb =>
    obtain rfl := hg (by decide)
    simp only [exec, execBfEncb, execBfDecb, apply_ite (onNext _)]
    rfl
  case bfEnc =>
    obtain rfl := hg (by decide)
    exact dataCommand_mapContents f id s .bfEnc (encryptBlock s.bf)
  case bfDec =>
    obtain rfl := hg (by decide)
    exact dataCommand_mapContents f id s .bfDec (decryptBlock s.bf)
  case seedDerive => exact exec_seedDerive_mapContents f g s
  case arcEntry =>
    obtain rfl := hg (by decide)
    simp only [exec, execArcEntry, apply_ite (onNext _), onNext_raise, onNext_succeed, onNext_archiveError,
      ← State.advanceEntry_mapContents, ← State.emitRow_mapContents, ← State.keyEntry_mapContents,
      ← State.decryptRecord_mapContents]
    rfl
  case subst | arcTocSet | arcTocClr | arcHeader =>
    simp only [exec, execSubst, execArcTocSet, execArcTocClr, execArcHeader, apply_ite (onNext _)]
    rfl
  all_goals rfl

/-! ### Unread contents -/

/-- R109, R110: with the cursor at 625 a generator command does the same whatever the words are. -/
theorem exec_mapContents_of_unseeded {i : Instr} (hi : i ∈ [.mtSeed, .mtTwist, .mtNext]) {s : State}
    (hcursor : s.mtCursor = 625) (f : Vector Word 624 → Vector Word 624) :
    exec i (s.mapContents f id) = exec i s := by
  have htwisted : (s.mapContents f id).twisted = s.twisted := by
    rw [State.twisted_of_unseeded hcursor, State.twisted_of_unseeded (s := s.mapContents f id) hcursor]
    rfl
  have hle : 624 ≤ s.mtCursor.val := by simp [hcursor]
  simp only [List.mem_cons, List.not_mem_nil, or_false] at hi
  obtain rfl | rfl | rfl := hi
  · rfl
  · exact congrArg (succeed .mtTwist) htwisted
  · rw [exec_mtNext_of_le hle, exec_mtNext_of_le (s := s.mapContents f id) hle, htwisted]

/-- Where `o` has a next state, `o'` has the same, or the same with the schedule `bf` where `o` keeps `kept`. -/
def OverwritesOrKeeps (kept bf : Schedule) (o o' : Host.Outcome State Fault Refusal) : Prop :=
  ∀ t, o = .next t → o' = .next t ∨ o' = .next { t with bf := bf } ∧ t.bf = kept

section
variable {kept bf : Schedule}

theorem overwritesOrKeeps_of_eq {o o' : Host.Outcome State Fault Refusal} (h : o' = o) :
    OverwritesOrKeeps kept bf o o' :=
  fun _ ht => .inl (h.trans ht)

theorem overwritesOrKeeps_raise (i : Instr) (e : ErrCode) (q : State) :
    OverwritesOrKeeps q.bf bf (raise i e q) (raise i e { q with bf := bf }) := by
  intro t h
  obtain rfl := (raise_eq_next ..).1 h
  exact .inr ⟨rfl, rfl⟩

theorem OverwritesOrKeeps.ite {p : Prop} [Decidable p] {x y x' y' : Host.Outcome State Fault Refusal}
    (hx : p → OverwritesOrKeeps kept bf x x') (hy : ¬ p → OverwritesOrKeeps kept bf y y') :
    OverwritesOrKeeps kept bf (if p then x else y) (if p then x' else y') := by
  split
  case isTrue hp => exact hx hp
  case isFalse hp => exact hy hp

/-- R137 to R141, R217 to R220: with BF_VALID = 0 a command that works on the schedule either overwrites it or keeps it,
and reads it in neither case. The invariant excludes the one branch of ARC_ENTRY that would read it. -/
theorem overwritesOrKeeps_of_invalid {i : Instr} (hi : i ∈ [.bfKey, .bfEncb, .bfDecb, .bfEnc, .bfDec, .arcEntry])
    {s : State} (hvalid : s.bfValid = false) (harc : s.archiveKeyInv) :
    OverwritesOrKeeps s.bf bf (exec i s) (exec i { s with bf := bf }) := by
  have raises (i : Instr) (e : ErrCode) := overwritesOrKeeps_raise (bf := bf) i e s
  have invalid {o o' : Host.Outcome State Fault Refusal} (h : ¬ s.bfValid = false) :
      OverwritesOrKeeps s.bf bf o o' := absurd hvalid h
  have noKey (hst : ¬ s.arcState ≠ .entries) (henc : s.arcEnc = true) : ¬ s.bfValid = false :=
    fun h => Bool.false_ne_true (h.symm.trans (harc (not_not.1 hst) henc).1)
  simp only [List.mem_cons, List.not_mem_nil, or_false] at hi
  obtain rfl | rfl | rfl | rfl | rfl | rfl := hi
  · exact .ite (fun _ => raises _ _) fun _ => .ite (fun _ => raises _ _) fun _ => overwritesOrKeeps_of_eq rfl
  · exact .ite (fun _ => raises _ _) invalid
  · exact .ite (fun _ => raises _ _) invalid
  · exact .ite (fun _ => raises _ _) fun _ => .ite (fun _ => raises _ _) invalid
  · exact .ite (fun _ => raises _ _) fun _ => .ite (fun _ => raises _ _) invalid
  · exact .ite (fun _ => raises _ _) fun _ => .ite (fun _ => raises _ _) fun hst =>
      .ite (fun _ => overwritesOrKeeps_raise _ _ (s.archiveFatal _)) fun _ =>
      .ite (fun _ => overwritesOrKeeps_of_eq rfl) fun _ =>
      .ite (fun henc => invalid (noKey hst henc)) fun _ => overwritesOrKeeps_raise _ .ok s.emitRow.advanceEntry

end

/-- Settles O58: the command works on the contents and does not read them, or a change of them commutes with it. -/
theorem guardedContentsNeverMatter : Obligations.GuardedContentsNeverMatter := by
  unfold Obligations.GuardedContentsNeverMatter
  refine fun i s t h => ⟨fun mt hcursor => ?_, fun bf hvalid harc => ?_⟩
  · by_cases hi : i ∈ [.mtSeed, .mtTwist, .mtNext]
    · have hsame := exec_mapContents_of_unseeded hi hcursor fun _ => mt
      exact ⟨t.mtState, hsame.trans h, .inl rfl⟩
    · have hcommutes := exec_mapContents (f := fun _ => mt) (absurd · hi) (fun _ => rfl) s
      rw [h] at hcommutes
      exact ⟨mt, hcommutes, .inr ⟨rfl, (exec_keeps h).words hi⟩⟩
  · by_cases hi : i ∈ [.bfKey, .bfEncb, .bfDecb, .bfEnc, .bfDec, .arcEntry]
    · obtain hsame | ⟨hkeeps, hbf⟩ := overwritesOrKeeps_of_invalid hi hvalid harc t h
      · exact ⟨t.bf, hsame, .inl rfl⟩
      · exact ⟨bf, hkeeps, .inr ⟨rfl, hbf⟩⟩
    · have hcommutes := exec_mapContents (g := fun _ => bf) (fun _ => rfl) (absurd · hi) s
      rw [h] at hcommutes
      have hworks : [Instr.bfKey, .arcEntry] ⊆ [.bfKey, .bfEncb, .bfDecb, .bfEnc, .bfDec, .arcEntry] := by decide
      have hbf : t.bf = s.bf := (exec_keeps h).schedule fun hm => hi (hworks hm)
      exact ⟨bf, hcommutes, .inr ⟨rfl, hbf⟩⟩

end Sys2Proof.Machine
end

section
/-! Proofs about errors (60_exceptions.md R262 to R266).

`exec_cases` says which error codes each kind of end has, so the code tells the kind of end and with it the whole next
state (R263, R264). Which code it is (R266) follows the checks of the meanings one by one: `EndsWith.ite` passes a check
on to the code. -/

namespace Sys2Proof.Machine

/-! ### Errors that change nothing -/

/-- R263: a command that ends with one of these errors has only completed; the archive errors and success have other
codes. -/
theorem exec_eq_complete_of_err {i : Instr} {s t : State} (h : exec i s = .next t)
    (herr : t.err = .invalidArgument ∨ t.err = .unsupportedKeyType ∨ t.err = .illegalCommand ∨ t.err = .stateError) :
    t = s.complete (opcode i) t.err := by
  obtain ⟨e, -, rfl⟩ | ⟨-, e, he, rfl⟩ | ⟨-, -, e, he, rfl⟩ | rfl := exec_cases h
  · rfl
  · obtain rfl | rfl := he <;> simp at herr
  · obtain rfl | rfl := he <;> simp at herr
  · simp at herr

/-- Settles O20: an illegal word only completes, and so does a command by `exec_eq_complete_of_err`. -/
theorem failedCommandChangesNothing : Obligations.FailedCommandChangesNothing := by
  unfold Obligations.FailedCommandChangesNothing
  intro s t w hp hw hstep herr
  rw [step_latched hp hw] at hstep
  cases hdecode : decodeWord w with
  | ok i =>
    rw [runPending_ok hdecode] at hstep
    have hopcode : opcode i = w.extractLsb' 0 8 := by
      rw [← opcField_encodeWord, ← decodeWord_eq_ok_iff_eq_encodeWord.1 hdecode, opcField]
    rw [← hopcode]
    exact exec_eq_complete_of_err hstep herr
  | error e =>
    rw [runPending_error ⟨e, hdecode⟩, completeIllegal_eq_next] at hstep
    rw [hstep]
    rfl

/-! ### Archive errors -/

/-- Settles O21: the errors that change nothing and success have other codes than the archive errors. -/
theorem archiveErrorsAreFatal : Obligations.ArchiveErrorsAreFatal := by
  unfold Obligations.ArchiveErrorsAreFatal
  intro i s t h herr
  obtain ⟨e, he, rfl⟩ | ⟨rfl, e, he, rfl⟩ | ⟨rfl, -, e, he, rfl⟩ | rfl := exec_cases h
  · simp only [plainErrors, List.mem_cons, List.not_mem_nil, or_false] at he
    obtain rfl | rfl | rfl := he <;> simp at herr
  · refine .inl ⟨rfl, ?_, rfl⟩
    obtain rfl | rfl := he <;> exact ErrCode.noConfusion
  · refine .inr ⟨rfl, ?_, rfl⟩
    obtain rfl | rfl := he <;> exact ErrCode.noConfusion
  · simp at herr

/-! ### Which error -/

/-- R260: ERR is `e` in the next state that the outcome gives. -/
def EndsWith (o : Host.Outcome State Fault Refusal) (e : ErrCode) : Prop := ∀ t, o = .next t → t.err = e

theorem endsWith_succeed (i : Instr) (q : State) : EndsWith (succeed i q) .ok := by
  intro t h
  rw [(succeed_eq_next ..).1 h, State.complete_err]

theorem endsWith_raise (i : Instr) (e : ErrCode) (q : State) : EndsWith (raise i e q) e := by
  intro t h
  rw [(raise_eq_next ..).1 h, State.complete_err]

theorem endsWith_archiveError (i : Instr) (e : ErrCode) (q : State) : EndsWith (archiveError i e q) e :=
  endsWith_raise i e _

/-- R265: the code is decided by the same checks as the outcome. -/
theorem EndsWith.ite {c c' : Prop} [Decidable c] [Decidable c'] {x y : Host.Outcome State Fault Refusal}
    {e e' : ErrCode} (hc : c ↔ c') (hx : EndsWith x e) (hy : EndsWith y e') :
    EndsWith (if c then x else y) (if c' then e else e') := by
  rw [if_congr hc rfl rfl]
  split
  · exact hx
  · exact hy

/-- R18: a check for an error that changes nothing. -/
theorem EndsWith.check {i : Instr} {e : ErrCode} {q : State} {c c' : Prop} [Decidable c] [Decidable c']
    {o : Host.Outcome State Fault Refusal} {e' : ErrCode} (hc : c ↔ c') (ho : EndsWith o e') :
    EndsWith (if c then raise i e q else o) (if c' then e else e') :=
  .ite hc (endsWith_raise i e q) ho

/-- R140, R141, R266: BF_ENC and BF_DEC check the same. -/
theorem endsWith_dataCommand (i : Instr) (f : List Byte → List Byte) (s : State) :
    EndsWith (dataCommand i f s)
      (if 256 < s.arg1.toNat ∨ s.arg1.toNat % 8 ≠ 0 then .invalidArgument
      else if s.bfValid = false then .stateError else .ok) :=
  .check (dataLengthOk_eq_false _) (.check .rfl (endsWith_succeed _ _))

/-- R174, R266: SEED_DERIVE knows an unsupported tag by having no seed function for it. -/
theorem endsWith_seedDerive (s : State) :
    EndsWith (exec .seedDerive s)
      (if 3 < s.arg0.toNat then .unsupportedKeyType
      else if 256 < s.arg1.toNat then .invalidArgument else .ok) := by
  cases hseed : (keyTypeOf s.arg0).bind seedOfKeyType with
  | none =>
    have htag := (keyType_unsupported s.arg0).1 hseed
    rw [exec_seedDerive_of_unsupported htag, if_pos htag]
    exact endsWith_raise _ _ _
  | some seed =>
    have htag : ¬ 3 < s.arg0.toNat := by simp [← keyType_unsupported, hseed]
    rw [exec_seedDerive_of_supported hseed, if_neg htag]
    exact .check (bufferLengthOk_eq_false _) (endsWith_succeed _ _)

theorem exec_arcEntry_of_tooMany {s : State} (h : 72 < s.arg1.toNat) :
    exec .arcEntry s = raise .arcEntry .invalidArgument s :=
  if_pos ((availableOk_eq_false _).2 h)

/-- R217, R219, R266: ARC_ENTRY asks for the table-of-contents seed only of a whole record in Entries. -/
theorem endsWith_arcEntry (s : State) :
    EndsWith (exec .arcEntry s)
      (if 72 < s.arg1.toNat then .invalidArgument
      else if s.arcState ≠ .entries then .stateError
      else if s.arg1.toNat < 72 then .truncatedEntry
      else if isKeyEntry s.params.keyMarker (s.ebuf 0 64) = false ∧ s.arcEnc = true ∧ s.tocValid = false then
        .missingTocSeed
      else .ok) := by
  split_ifs with hmany hst hshort hseed
  · rw [exec_arcEntry_of_tooMany hmany]
    exact endsWith_raise _ _ _
  · rw [exec_arcEntry_of_not_entries (Nat.le_of_not_lt hmany) hst]
    exact endsWith_raise _ _ _
  · rw [exec_arcEntry_of_truncated hshort (not_not.1 hst)]
    exact endsWith_archiveError _ _ _
  · rw [exec_arcEntry_of_lacksTocSeed (by omega) (not_not.1 hst) hseed]
    exact endsWith_archiveError _ _ _
  · rw [exec_arcEntry_of_not_lacksTocSeed (by omega) (not_not.1 hst) hseed]
    exact endsWith_succeed _ _

/-- Settles O22, by the checks of each command in their order. -/
theorem errorCausesInCheckOrder : Obligations.ErrorCausesInCheckOrder := by
  unfold Obligations.ErrorCausesInCheckOrder
  intro i s t h
  have ends {e : ErrCode} (he : EndsWith (exec i s) e) : t.err = e := he t h
  refine ⟨?noError, ?bfKey, ?halves, ?data, ?seedDerive, ?subst, ?toc, ?arcHeader, ?arcEntry⟩
  case noError =>
    rintro (rfl | rfl | rfl | rfl | rfl | rfl | rfl | rfl | rfl | rfl) <;> exact ends (endsWith_succeed _ _)
  case bfKey =>
    rintro rfl
    exact ends (.check (keyLengthOk_eq_false _) (.check .rfl (endsWith_succeed _ _)))
  case halves =>
    rintro (rfl | rfl) <;> exact ends (.check .rfl (endsWith_succeed _ _))
  case data =>
    rintro (rfl | rfl) <;> exact ends (endsWith_dataCommand _ _ s)
  case seedDerive =>
    rintro rfl
    exact ends (endsWith_seedDerive s)
  case subst =>
    rintro rfl
    exact ends (.check (substKeyOk_eq_false _) (.check (bufferLengthOk_eq_false _) (endsWith_succeed _ _)))
  case toc =>
    rintro (rfl | rfl) <;> exact ends (.check .rfl (endsWith_succeed _ _))
  case arcHeader =>
    rintro rfl
    exact ends (.check (availableOk_eq_false _) (.ite .rfl (endsWith_archiveError _ _ _)
      (.ite .rfl (endsWith_archiveError _ _ _) (endsWith_succeed _ _))))
  case arcEntry =>
    rintro rfl
    exact ends (endsWith_arcEntry s)

end Sys2Proof.Machine
end

section
/-! Proofs about reset and hazards (70_reset_and_hazards.md): a waiting command and the host's accesses while BUSY = 1
(R295 to R297), what stays fixed inside one archive (R298), and the first commands after a reset (R291).

`hostOp_cases` says what an event from outside can do; from it `hostOp_busy_frame` and `hostOp_archive` say once what it
leaves alone while BUSY = 1 and in an archive. -/

namespace Sys2Proof.Machine

/-! ### Reads while BUSY = 1 -/

/-- R25: BUSY is bit 0 of STATUS. -/
theorem State.statusWord_busyBit {s : State} {w : Word} (hp : s.pending = some w) :
    s.statusWord.extractLsb' 0 1 = 1 := by
  refine extractLsb'_eq_of_getLsbD fun k hk => ?_
  obtain rfl : k = 0 := Nat.lt_one_iff.1 hk
  exact (s.getLsbD_statusWord (by decide)).trans (by simp [hp])

/-- Settles O9: ID and STATUS are read as they are, any other word as the next free value. -/
theorem busyReads : Obligations.BusyReads := by
  unfold Obligations.BusyReads
  intro s w a rest hp hw hq ha hb
  refine ⟨fun h => ?id, fun h => ⟨?status, State.statusWord_busyBit hp⟩, fun h0 h4 => ?other⟩
  case id =>
    rw [step_read_busy_defined hp hw hq (.inl h), h]
    rfl
  case status =>
    rw [step_read_busy_defined hp hw hq (.inr h), h]
    rfl
  case other =>
    rw [step_read_busy_other hp hw hq ha hb h0 h4]
    rfl

/-! ### What an event leaves alone -/

section
variable {op : HostOp} {rest : List HostOp} {s t : State}

/-- R295, R297: while BUSY = 1 an event that is no reset changes OVR and the host's own bookkeeping only. -/
theorem hostOp_busy_frame (hb : s.busy = true) (hop : op ≠ .hardReset) (h : hostOp op rest s = .next t) :
    t = { s with ovr := t.ovr, hostQueue := t.hostQueue, hostReads := t.hostReads, freeIndex := t.freeIndex } := by
  obtain ⟨a, -, -, rfl⟩ | ⟨a, v, -, -, rfl⟩ | ⟨-, rfl⟩ | ⟨hreset, -⟩ := hostOp_cases h
  · unfold State.hostRead
    split <;> rfl
  · rw [State.hostWrite, if_pos ((State.busy_withQueue ..).trans hb)]
    rfl
  · rfl
  · exact absurd hreset hop

@[simp] theorem State.hostRead_hostQueue (s : State) (a : Nat) : (s.hostRead a).hostQueue = s.hostQueue := by
  unfold State.hostRead
  split <;> rfl

@[simp] theorem State.hostWrite_hostQueue (s : State) (a : Nat) (v : Word) :
    (s.hostWrite a v).hostQueue = s.hostQueue := by
  unfold State.hostWrite
  split
  · rfl
  · rw [State.windowWrite_frame]

/-- R59: an event is taken from the queue, and nothing is put in. -/
theorem mem_of_mem_hostQueue_hostOp (h : hostOp op rest s = .next t) {x : HostOp} (hx : x ∈ t.hostQueue) :
    x ∈ op :: rest := by
  obtain ⟨a, -, -, rfl⟩ | ⟨a, v, -, -, rfl⟩ | ⟨rfl, rfl⟩ | ⟨-, rfl⟩ := hostOp_cases h
  · exact List.mem_cons_of_mem _ (by simpa using hx)
  · exact List.mem_cons_of_mem _ (by simpa using hx)
  · rw [State.withQueue_hostQueue] at hx
    split at hx
    · exact hx
    · exact List.mem_cons_of_mem _ hx
  · exact List.mem_cons_of_mem _ hx

/-- R53: a defined event goes on. -/
theorem hostOp_next_of_wf (h : op.wf = true) (rest : List HostOp) (s : State) : ∃ t, hostOp op rest s = .next t := by
  cases op with
  | read a n => exact ⟨_, (checkedAccess_eq_next ..).2 ⟨h, rfl⟩⟩
  | write a n v => exact ⟨_, (checkedAccess_eq_next ..).2 ⟨h, rfl⟩⟩
  | poll => exact ⟨_, rfl⟩
  | hardReset => exact ⟨_, rfl⟩

end

/-! ### A command that waits -/

section
variable {s t : State} {w : Word}

theorem hostStep_nil (h : s.hostQueue = []) : hostStep s = .next s := by
  simp [hostStep, h]

/-- R296: a step of the wait takes the next event, if there is one. -/
theorem step_waiting_cases (hp : s.pending = some w) (hw : s.wait ≠ 0) (h : step s = .next t) :
    t = s.tick ∨ ∃ op rest, s.hostQueue = op :: rest ∧ hostOp op rest s.tick = .next t := by
  rw [step_waiting hp hw] at h
  cases hq : s.hostQueue with
  | nil =>
    rw [hostStep_nil (s := s.tick) hq] at h
    exact .inl (Host.Outcome.next.inj h).symm
  | cons op rest =>
    rw [hostStep_cons (s := s.tick) hq] at h
    exact .inr ⟨op, rest, rfl, h⟩

/-- R295, R297: every step of the wait but a hardware reset leaves alone what the command will read. -/
theorem step_waiting_frame (hp : s.pending = some w) (hw : s.wait ≠ 0) (hreset : ¬ s.resetNext)
    (h : step s = .next t) :
    t = { s with
          ovr := t.ovr, hostQueue := t.hostQueue, hostReads := t.hostReads, freeIndex := t.freeIndex
          wait := s.wait - 1 } := by
  obtain rfl | ⟨op, rest, hq, hop⟩ := step_waiting_cases hp hw h
  · rfl
  · have hne : op ≠ .hardReset := fun heq => hreset ⟨rest, heq ▸ hq⟩
    exact hostOp_busy_frame (s := s.tick) (State.busy_eq_true hp) hne hop

theorem mem_of_mem_hostQueue_step (hp : s.pending = some w) (hw : s.wait ≠ 0) (h : step s = .next t) {x : HostOp}
    (hx : x ∈ t.hostQueue) : x ∈ s.hostQueue := by
  obtain rfl | ⟨op, rest, hq, hop⟩ := step_waiting_cases hp hw h
  · exact hx
  · exact hq ▸ mem_of_mem_hostQueue_hostOp hop hx

/-- R53, R296: with defined accesses only, no step of the wait stops the machine. -/
theorem step_waiting_next (hp : s.pending = some w) (hw : s.wait ≠ 0) (hwf : ∀ op ∈ s.hostQueue, op.wf = true) :
    ∃ t, step s = .next t := by
  rw [step_waiting hp hw]
  cases hq : s.hostQueue with
  | nil => exact ⟨_, hostStep_nil (s := s.tick) hq⟩
  | cons op rest =>
    rw [hostStep_cons (s := s.tick) hq]
    exact hostOp_next_of_wf (hwf op (by simp [hq])) rest _

/-- R296: each step of the wait shortens it by 1 or, as a hardware reset, abandons the command. -/
theorem step_waiting_progress (hp : s.pending = some w) (hw : s.wait ≠ 0) (h : step s = .next t) :
    t.pending = none ∨ t.pending = some w ∧ t.wait = s.wait - 1 := by
  by_cases hreset : s.resetNext
  · obtain ⟨rest, hq⟩ := hreset
    obtain ⟨q, hq⟩ := step_hardReset (.inr hw) hq
    obtain rfl := Host.Outcome.next.inj (h.symm.trans hq)
    exact .inl rfl
  · rw [step_waiting_frame hp hw hreset h]
    exact .inr ⟨hp, rfl⟩

end

/-- Settles O8: a dropped write is one step of the wait, and `step_waiting_frame` speaks of them all. -/
theorem busyWritesAreDropped : Obligations.BusyWritesAreDropped := by
  unfold Obligations.BusyWritesAreDropped
  exact ⟨fun _ _ _ _ _ => step_write_busy, fun _ _ _ => step_waiting_frame⟩

/-! ### The end of the wait -/

/-- R74: the latched word, a command or an illegal one, completes. -/
theorem runPending_completes (w : Word) (s : State) : ∃ t, runPending w s = .next t ∧ t.pending = none := by
  cases hdecode : decodeWord w with
  | ok i =>
    obtain ⟨q, e, hexec⟩ := exec_completes i s
    exact ⟨_, (runPending_ok hdecode s).trans hexec, rfl⟩
  | error e => exact ⟨_, runPending_error ⟨e, hdecode⟩ s, rfl⟩

theorem core_run_succ {s t : State} (h : step s = .next t) (k : Nat) : core.run (k + 1) s = core.run k t := by
  have hstep : core.step s = .next t := h
  simp only [Host.Core.run, hstep]

theorem core_run_one {s t : State} (h : step s = .next t) : core.run 1 s = .next t :=
  core_run_succ h 0

/-- Settles O6, by induction on the latency. -/
theorem pendingCommandEnds : Obligations.PendingCommandEnds := by
  unfold Obligations.PendingCommandEnds
  intro s w hp hwf
  induction hn : s.wait generalizing s with
  | zero =>
    obtain ⟨t, hrun, ht⟩ := runPending_completes w s
    exact ⟨1, t, by omega, core_run_one ((step_latched hp hn).trans hrun), ht⟩
  | succ n ih =>
    have hw : s.wait ≠ 0 := by omega
    obtain ⟨t, hstep⟩ := step_waiting_next hp hw hwf
    obtain ht | ⟨ht, hwait⟩ := step_waiting_progress hp hw hstep
    · exact ⟨1, t, by omega, core_run_one hstep, ht⟩
    · have hwf' : ∀ op ∈ t.hostQueue, op.wf = true := fun op hop =>
        hwf op (mem_of_mem_hostQueue_step hp hw hstep hop)
      obtain ⟨k, u, hk, hrun, hu⟩ := ih t ht hwf' (by omega)
      exact ⟨k + 1, u, by omega, (core_run_succ hstep k).trans hrun, hu⟩

/-! ### Inside one archive -/

section
variable {s t : State}

theorem State.ticked_frame (s : State) : s.ticked = { s with wait := s.ticked.wait } := by
  unfold State.ticked
  split <;> rfl

/-- R62, R298: an event that does not end the archive leaves its seed and its schedule alone. -/
theorem hostOp_archive {op : HostOp} {rest : List HostOp} (h : hostOp op rest s = .next t)
    (ht : t.arcState = .entries) : t.tocSeed = s.tocSeed ∧ t.tocValid = s.tocValid ∧ t.bf = s.bf := by
  obtain ⟨a, -, -, rfl⟩ | ⟨a, v, -, -, rfl⟩ | ⟨-, rfl⟩ | ⟨-, rfl⟩ := hostOp_cases h
  · unfold State.hostRead
    split <;> exact ⟨rfl, rfl, rfl⟩
  · unfold State.hostWrite
    split
    · exact ⟨rfl, rfl, rfl⟩
    · rw [State.windowWrite_frame]
      exact ⟨rfl, rfl, rfl⟩
  · exact ⟨rfl, rfl, rfl⟩
  · cases ht

/-- R251: CORE_RESET ends the archive. -/
theorem ne_coreReset_of_entries {i : Instr} (h : exec i s = .next t) (ht : t.arcState = .entries) :
    i ≠ .coreReset := by
  rintro rfl
  obtain rfl := (succeed_eq_next ..).1 h
  cases ht

/-- R214, R215: in Entries the commands that write the table-of-contents seed end in StateError. -/
theorem exec_tocSeed_in_archive {i : Instr} (h : exec i s = .next t) (hs : s.arcState = .entries)
    (ht : t.arcState = .entries) : t.tocSeed = s.tocSeed ∧ t.tocValid = s.tocValid := by
  by_cases hset : i = .arcTocSet
  · subst hset
    rw [exec_arcTocSet_of_entries hs, raise_eq_next] at h
    exact h ▸ ⟨rfl, rfl⟩
  by_cases hclr : i = .arcTocClr
  · subst hclr
    rw [exec_arcTocClr_of_entries hs, raise_eq_next] at h
    exact h ▸ ⟨rfl, rfl⟩
  have hreset := ne_coreReset_of_entries h ht
  exact ⟨(exec_keeps h).tocSeed (by simp [hset, hreset]), (exec_keeps h).tocValid (by simp [hset, hclr, hreset])⟩

/-- R137: BF_KEY fails while an encrypted archive is in Entries. -/
theorem exec_bfKey_bf_in_archive (h : exec .bfKey s = .next t) (hs : s.arcState = .entries) (henc : s.arcEnc = true) :
    t.bf = s.bf := by
  by_cases hlen : s.arg1.toNat < 1 ∨ 56 < s.arg1.toNat
  · rw [exec_bfKey_of_badLength hlen, raise_eq_next] at h
    exact h ▸ rfl
  · rw [exec_bfKey_of_goodLength (by omega) (by omega), if_pos ⟨hs, henc⟩, raise_eq_next] at h
    exact h ▸ rfl

/-- R219, R220: a data entry reads the schedule and does not write it. -/
theorem exec_arcEntry_bf_of_dataEntry (h : exec .arcEntry s = .next t)
    (hkey : isKeyEntry s.params.keyMarker (s.ebuf 0 64) ≠ true) : t.bf = s.bf := by
  obtain ⟨e, -, rfl⟩ | ⟨hi, -⟩ | ⟨-, -, e, -, rfl⟩ | rfl := exec_cases h
  · rfl
  · cases hi
  · rfl
  · rw [successEffect, if_neg hkey]
    split <;> rfl

/-- R298: in an encrypted archive only its own key entry writes the schedule. -/
theorem exec_schedule_in_archive {i : Instr} (h : exec i s = .next t) (hs : s.arcState = .entries)
    (henc : s.arcEnc = true) (hne : t.bf ≠ s.bf) :
    i = .arcEntry ∧ isKeyEntry s.params.keyMarker (s.ebuf 0 64) = true := by
  have hi : i = .bfKey ∨ i = .arcEntry := by
    by_contra hi
    exact hne ((exec_keeps h).schedule (by simpa using hi))
  obtain rfl | rfl := hi
  · exact absurd (exec_bfKey_bf_in_archive h hs henc) hne
  · exact ⟨rfl, by_contra fun hkey => hne (exec_arcEntry_bf_of_dataEntry h hkey)⟩

end

/-- Settles O23, by what the step is: a command, an illegal word, nothing, or an event from outside. -/
theorem tocSeedIsFixedInAnArchive : Obligations.TocSeedIsFixedInAnArchive := by
  unfold Obligations.TocSeedIsFixedInAnArchive
  intro s t h hs ht
  obtain ⟨w, i, hw, h0, hi, hexec⟩ | ⟨_, _, -, -, -, rfl⟩ | ⟨-, -, rfl⟩ | ⟨op, rest, -, -, hop⟩ :=
    step_cases h
  · obtain ⟨hseed, hvalid⟩ := exec_tocSeed_in_archive hexec hs ht
    refine ⟨hseed, hvalid, fun henc _ hne => ?_⟩
    obtain ⟨rfl, hkey⟩ := exec_schedule_in_archive hexec hs henc hne
    exact ⟨⟨w, hw, h0, hi⟩, hkey⟩
  · exact ⟨rfl, rfl, fun _ _ hne => absurd rfl hne⟩
  · rw [State.ticked_frame]
    exact ⟨rfl, rfl, fun _ _ hne => absurd rfl hne⟩
  · obtain ⟨hseed, hvalid, hbf⟩ := hostOp_archive hop ht
    rw [State.ticked_frame] at hseed hvalid hbf
    exact ⟨hseed, hvalid, fun _ _ hne => absurd hbf hne⟩

/-! ### After a reset -/

/-- R291: the first output of a generator that was never seeded. -/
theorem firstOutput_mtDefaultSeed : firstOutput 4357 = 0xAAE64AC3 := by decide +kernel

/-- R110, R291: MT_NEXT on a generator that was never seeded. -/
theorem exec_mtNext_of_unseeded {s : State} (h : s.mtCursor = 625) :
    ∃ t, exec .mtNext s = .next t ∧ t.res0 = 0xAAE64AC3 ∧ t.mtCursor.val = 1 := by
  refine ⟨_, exec_mtNext_of_le (by simp [h]), ?_, rfl⟩
  calc
    temper s.twisted.mtState[0] = temper (twistWords (seedWords 4357))[0] := by rw [State.twisted_of_unseeded h]
    _ = firstOutput 4357 := (firstOutput_eq_temper_twistWords 4357).symm
    _ = 0xAAE64AC3 := firstOutput_mtDefaultSeed

theorem err_of_eq_raise {i : Instr} {e : ErrCode} {s : State} {o : Host.Outcome State Fault Refusal}
    (h : o = raise i e s) : ∃ t, o = .next t ∧ t.err = e :=
  ⟨_, h, rfl⟩

/-- Settles O57: the generator seeds itself, the cipher commands miss their schedule, and ARC_ENTRY its archive. -/
theorem firstCommandsAfterReset : Obligations.FirstCommandsAfterReset := by
  unfold Obligations.FirstCommandsAfterReset
  intro s hcursor hvalid hidle
  have hst : s.arcState ≠ .entries := by simp [hidle]
  exact ⟨exec_mtNext_of_unseeded hcursor, err_of_eq_raise (if_pos hvalid), err_of_eq_raise (if_pos hvalid),
    fun hle hmod =>
      ⟨err_of_eq_raise (dataCommand_of_noSchedule hle hmod hvalid),
        err_of_eq_raise (dataCommand_of_noSchedule hle hmod hvalid)⟩,
    fun hlen => err_of_eq_raise (exec_arcEntry_of_not_entries hlen hst)⟩

end Sys2Proof.Machine
end
